-- ==== Sys2Proof/Word.lean ====
section
/-!
DEFINITION. The two widths of the machine: bytes (data, registers, memory cells) and 16-bit addresses
(spec/00_scope.md R4, R6).
-/

namespace Sys2Proof

/-- A byte: 8 bits, bit 7 the most significant (R6). -/
abbrev Byte := BitVec 8

/-- A 16-bit value: an address, the program counter, a pointer (R6). -/
abbrev Word := BitVec 16

end Sys2Proof
end

