-- ==== Sys2Proof/Machine/Bits.lean ====
section
/-!
DEFINITION. Bytes and 16-bit values: concatenation, the two halves, extension, the same-page successor
(spec/00_scope.md R6, 40_addressing.md R104).
-/

namespace Sys2Proof.Machine

/-- `{h, l}`: the 16-bit value with high byte `h` and low byte `l` (R6). -/
def mkWord (h l : Byte) : Word := h ++ l

/-- Bits 15:8 (R6). -/
def hiByte (w : Word) : Byte := w.extractLsb' 8 8

/-- Bits 7:0 (R6). -/
def loByte (w : Word) : Byte := w.extractLsb' 0 8

/-- `zext_16` (R6). -/
def zext16 (b : Byte) : Word := b.setWidth 16

/-- `sext_16`: `b` if bit 7 is clear, else `b + 0xFF00` (R6). -/
def sext16 (b : Byte) : Word := if b.getLsbD 7 then zext16 b + 0xFF00 else zext16 b

/-- The address after `a` in the page of `a`: the increment is confined to the low byte (R104). -/
def nextInPage (a : Word) : Word := mkWord (hiByte a) (loByte a + 1)

end Sys2Proof.Machine
end

