-- ==== Sys2Proof/Config.lean ====
section
/-!
DEFINITION. What an implementation fixes (spec/00_scope.md R4) and the one free value, with the vocabulary of the
environment they need: its entry points (46_controller.md R240) and the events it can observe (20_memory.md R73).
-/

namespace Sys2Proof

/-- The entry points the environment may call (R240): the five ways the machine is made to move. -/
inductive Entry where
  /-- `step()`: one whole instruction (R230). -/
  | step
  /-- `clock()`: one bus cycle (R238). -/
  | clock
  /-- `rst()`: reset (R266). -/
  | rst
  /-- `nmi()`: non-maskable interrupt (R262). -/
  | nmi
  /-- `irq()`: maskable interrupt (R263). -/
  | irq
  deriving DecidableEq, Repr

/-- One event of the observable trace (R54, R73). -/
inductive Event where
  /-- `PR(addr, value)`: the core read peripheral register `addr` and got `value`. -/
  | pr (addr : Word) (value : Byte)
  /-- `PW(addr, value)`: the core wrote `value` to peripheral register `addr`. -/
  | pw (addr : Word) (value : Byte)
  /-- The environment called an entry point; the calls in the list give the position of each interrupt between
  instructions. -/
  | call (e : Entry)
  deriving DecidableEq, Repr

/-- FREE VALUE (R54, 93_implementation_defined.md U5; DESIGN CHOICE in its form, log entry 4; safe for claims about one
run). The byte the environment answers to a read of a peripheral register, as an unknown function of everything that
happened before and of the register read. It has no body: nothing can be proved of its values, and since the history
grows with every read, two reads of one register are unrelated. -/
opaque Config.periphRead : List Event → Word → Byte

/-- RESET_ST, the value `Rst` gives the status register (R4, R41; 92_eei_decisions.md D9). The spec leaves it OPEN with
this value (log entry 9). -/
def Config.resetSt : Byte := 0x00

/-- The stack pointer after construction and after `Rst` (R4, R41). -/
def Config.resetSp : Byte := 0xFF

/-- The three vectors (R63). -/
def Config.nmiVector : Word := 0xFFFA
/-- The reset vector (R63). -/
def Config.resetVector : Word := 0xFFFC
/-- The vector of `Irq` and BRK (R63). -/
def Config.irqVector : Word := 0xFFFE

/-- RAM_SIZE: the number of RAM bytes (R4, R35). -/
def Config.ramSize : Nat := 2048

end Sys2Proof
end

