-- ==== Sys2Proof/Machine/State.lean ====
section
/-!
DEFINITION. The state of the machine as plain data, its reset value, and the reasons a step can stop
(spec/10_state.md R20 to R41, 60_exceptions.md R250 to R254).
-/

namespace Sys2Proof.Machine

/-- Byte storage: (address, byte) pairs, addresses strictly rising, no entry equal to `unlistedByte`. -/
abbrev Memory := List Host.Cell

/-- What an address with no entry reads as, in RAM (constructed zeroed, R35) and in the representation of the ROM
(log entry 3). -/
def unlistedByte : Byte := 0x00

/-- The seven register slots (R20). -/
inductive Reg where
  | a | x | y | st | sp | pcl | pch
  deriving DecidableEq, Repr

/-- The controller state between transitions (R36). -/
inductive Ctl where
  /-- Power-up: Interrupt-Servicing with the reset pending (R36, R290). -/
  | interruptServicing
  /-- Instructions run. -/
  | run
  /-- A fault has been raised; only `Rst` is enabled (R236). -/
  | halted
  deriving DecidableEq, Repr

/-- The three faults of the design with the information each records (R250 to R253). -/
inductive FaultInfo where
  /-- R251: `sp` at the push, the address of the pushing instruction's opcode (for `Nmi` and `Irq` the `pc` at entry),
  and which push of it this was, counted from 1. -/
  | stackOverflow (sp : Byte) (opcAddr : Word) (nth : Nat)
  /-- R252: `sp` at the pop, the address of the popping instruction's opcode, and which pop of it this was. -/
  | stackUnderflow (sp : Byte) (opcAddr : Word) (nth : Nat)
  /-- R253: the undefined opcode byte and its address. -/
  | invalidOpcode (opcode : Byte) (opcAddr : Word)
  deriving DecidableEq, Repr

/-- Why a step can stop. The design's own faults are not here: `raise` is described by the spec as a change of state
(R254) and the model takes it as a next state with `ctl = halted` (log entry 1). -/
inductive Fault where
  /-- Raised by a transition the controller state does not enable: `Step`, `Nmi`, `Irq` in Halted (R236) or before the
  first `Rst` (R290). The spec gives such a call no meaning (93 U4: stuck). Safe. -/
  | notEnabled (e : Entry) (c : Ctl)
  deriving DecidableEq, Repr

/-- Why an instruction can be refused. -/
inductive Refusal where
  /-- Raised by `exec` for an instruction without a meaning; no arm does so. Safe. -/
  | notModelled (mnemonic : String)
  deriving DecidableEq, Repr

/-- The machine's state. -/
structure State where
  /-- The accumulator (R21). -/
  a : Byte
  /-- Index register X (R22). -/
  x : Byte
  /-- Index register Y (R23). -/
  y : Byte
  /-- The status register, N7 V6 U5 B4 D3 I2 Z1 C0 (R24). -/
  st : Byte
  /-- The stack pointer (R32). -/
  sp : Byte
  /-- The program counter; the slots PCH and PCL are its two bytes (R33; log entry 15). -/
  pc : Word
  /-- RAM, keyed 0 to 2047 (R35). -/
  ram : Memory
  /-- The cartridge's contents, keyed 0x8000 to 0xFFFF: CartRead as plain data (R56; log entry 3). -/
  rom : Memory
  /-- The controller state (R36). -/
  ctl : Ctl
  /-- The record of the fault that halted the core (R36, R254). -/
  fault : Option FaultInfo
  /-- `cycles_left`, the outstanding-cycle counter (R37). -/
  cyclesLeft : Nat
  /-- `penalty`, the penalty-cycle counter (R37). -/
  penalty : Nat
  /-- The event history, oldest first (R54, R73). -/
  events : List Event
  /-- The entry points the environment will call, soonest first: the model's own field (R240; log entry 6). -/
  schedule : List Entry
  deriving DecidableEq, Repr

/-- The machine as construction leaves it, with cartridge `rom` in place, before its first `Rst` (R40, R41, R290). -/
def State.constructed (rom : Memory) : State :=
  { a := 0x00, x := 0x00, y := 0x00, st := 0x00, sp := 0xFF, pc := 0x0000, ram := [], rom := rom,
    ctl := .interruptServicing, fault := none, cyclesLeft := 0, penalty := 0, events := [], schedule := [] }

/-- The machine right after its first `Rst` (R41, R290), with the cartridge that holds nothing but 0x00 (log entries 3
and 7): the vector at 0xFFFC reads 0x0000, so `pc` is 0x0000. -/
def State.reset : State :=
  { a := 0x00, x := 0x00, y := 0x00, st := Config.resetSt, sp := Config.resetSp, pc := 0x0000, ram := [], rom := [],
    ctl := .run, fault := none, cyclesLeft := 0, penalty := 0, events := [], schedule := [] }

/-- One outcome of a transition or of an instruction. -/
abbrev Result := Host.Outcome State Fault Refusal

end Sys2Proof.Machine
end

