-- ==== Sys2Proof/Machine/Flags.lean ====
section
/-!
DEFINITION. The status register's flags and every flag computation of the ALU (spec/10_state.md R24 to R31,
43_alu_arith_logic.md R152 to R161, 44_alu_shift_incdec_flag.md R171 to R174).
-/

namespace Sys2Proof.Machine

/-- The eight named bits of ST (R24). -/
inductive Flag where
  | n | v | u | b | d | i | z | c
  deriving DecidableEq, Repr

/-- The bit of ST that holds the flag (R24). -/
def Flag.bit : Flag → Nat
  | .n => 7 | .v => 6 | .u => 5 | .b => 4 | .d => 3 | .i => 2 | .z => 1 | .c => 0

/-- The flag's mask (R24). -/
def Flag.mask : Flag → Byte
  | .n => 0x80 | .v => 0x40 | .u => 0x20 | .b => 0x10 | .d => 0x08 | .i => 0x04 | .z => 0x02 | .c => 0x01

/-- `set_flag(mask)` on a status byte (R181). -/
def orMask (mask st : Byte) : Byte := st ||| mask

/-- `clr_flag(mask)` on a status byte (R181). -/
def clearMask (mask st : Byte) : Byte := st &&& ~~~mask

/-- `ST.f <- v` on a status byte: one bit written, the other seven kept (R7). -/
def withFlag (f : Flag) (v : Bool) (st : Byte) : Byte :=
  if v then orMask f.mask st else clearMask f.mask st

/-- `ST.f`, read (R7). -/
def State.flag (f : Flag) (s : State) : Bool := s.st.getLsbD f.bit

/-- `ST.f <- v` (R7). -/
def State.setFlag (f : Flag) (v : Bool) (s : State) : State := { s with st := withFlag f v s.st }

/-- `SetNZ(v)`: N is bit 7 of `v`, Z says that `v` is 0x00; no other bit is written (R25). -/
def setNZ (v : Byte) (s : State) : State := (s.setFlag .n (v.getLsbD 7)).setFlag .z (v == 0x00)

/-- What an addition gives: the byte, the carry out, the signed overflow (R152). -/
structure AddResult where
  r : Byte
  carry : Bool
  overflow : Bool
  deriving DecidableEq, Repr

/-- `a + m + c`: the 9-bit intermediate, its low byte, carry when it exceeds 0xFF, overflow by
`(r ^ a) & (r ^ m) & 0x80` (R152). Binary whatever ST.D holds (R151). -/
def addWithCarry (a m : Byte) (c : Bool) : AddResult :=
  let t := a.toNat + m.toNat + c.toNat
  let r := BitVec.ofNat 8 t
  { r := r, carry := decide (t > 0xFF), overflow := (r ^^^ a) &&& (r ^^^ m) &&& 0x80 != 0x00 }

/-- Subtraction is the addition of the one's complement of the subtrahend (R153). -/
def subWithBorrow (a m : Byte) (c : Bool) : AddResult := addWithCarry a (~~~m) c

/-- The pushed copy of ST: B and U set for PHP and BRK, U set and B clear for `Nmi` and `Irq` (R31). -/
def pushedStatus (brk : Bool) (st : Byte) : Byte :=
  if brk then st ||| 0x30 else (st ||| 0x20) &&& 0xEF

/-- ASL: bit 0 becomes 0, bit 7 goes to the carry (R171). -/
def aslOp (v : Byte) (_c : Bool) : Byte × Bool := (v <<< 1, v.getLsbD 7)

/-- LSR: bit 7 becomes 0, bit 0 goes to the carry (R172). -/
def lsrOp (v : Byte) (_c : Bool) : Byte × Bool := (v >>> 1, v.getLsbD 0)

/-- ROL: the old carry enters bit 0, bit 7 goes to the carry (R173). -/
def rolOp (v : Byte) (c : Bool) : Byte × Bool := ((v <<< 1) ||| (if c then 0x01 else 0x00), v.getLsbD 7)

/-- ROR: the old carry enters bit 7, bit 0 goes to the carry (R174). -/
def rorOp (v : Byte) (c : Bool) : Byte × Bool := ((v >>> 1) ||| (if c then 0x80 else 0x00), v.getLsbD 0)

end Sys2Proof.Machine
end

