-- ==== Sys2Proof/Machine/Ops.lean ====
section
/-!
DEFINITION. The named operations: byte storage, the address bus, the register file, pushes and pops, raising a fault,
interrupt entry and return, reset (spec/20_memory.md, 42_stack.md R140 and R141, 60_exceptions.md R254, R261 to R266).
-/

namespace Sys2Proof.Machine

/-! ### Byte storage -/

/-- The byte stored at address `k`. -/
def Memory.read : Memory → Nat → Byte
  | [], _ => unlistedByte
  | (j, b) :: t, k => if j = k then b else Memory.read t k

/-- Store `v` at address `k`, keeping the canonical form. -/
def Memory.write : Memory → Nat → Byte → Memory
  | [], k, v => if v = unlistedByte then [] else [(k, v)]
  | (j, b) :: t, k, v =>
    if k < j then (if v = unlistedByte then (j, b) :: t else (k, v) :: (j, b) :: t)
    else if k = j then (if v = unlistedByte then t else (k, v) :: t)
    else (j, b) :: Memory.write t k v

/-- The canonical form, every address at least `lo` and below `hi`: addresses strictly rising, no entry equal to
`unlistedByte`. -/
def Memory.wfFrom : Nat → Nat → Memory → Bool
  | _, _, [] => true
  | lo, hi, (k, v) :: t => decide (lo ≤ k) && decide (k < hi) && (v != unlistedByte) && Memory.wfFrom (k + 1) hi t

/-- The canonical form of a memory over addresses `lo` to `hi - 1`. -/
def Memory.wf (lo hi : Nat) (m : Memory) : Bool := Memory.wfFrom lo hi m

/-! ### The address bus -/

/-- The five targets of the routing table (R51, R52). -/
inductive Target where
  /-- 0x0000–0x1FFF: the RAM byte `i`. -/
  | ram (i : Nat)
  /-- 0x2000–0x3FFF: the peripheral register at `reg`. -/
  | periph (reg : Word)
  /-- 0x4000–0x401F. -/
  | unmappedIo
  /-- 0x4020–0x7FFF. -/
  | unmapped
  /-- 0x8000–0xFFFF: the cartridge byte at this address. -/
  | cart (k : Nat)
  deriving DecidableEq, Repr

/-- The routing table with its mirroring masks (R51, R52, R53, R54). -/
def route (a : Word) : Target :=
  if a < 0x2000 then .ram (a &&& 0x07FF).toNat
  else if a < 0x4000 then .periph (a &&& 0x2007)
  else if a < 0x4020 then .unmappedIo
  else if a < 0x8000 then .unmapped
  else .cart a.toNat

/-- The byte a read of `a` returns (R51). For the peripheral window it is the free value of the history so far. -/
def memPeek (a : Word) (s : State) : Byte :=
  match route a with
  | .ram i => s.ram.read i
  | .periph reg => Config.periphRead s.events reg
  | .unmappedIo => 0x00
  | .unmapped => 0x00
  | .cart k => s.rom.read k

/-- What a read of `a` leaves behind: nothing, but for the peripheral window, where it is an event (R54, R61). -/
def memTouch (a : Word) (s : State) : State :=
  match route a with
  | .periph reg => { s with events := s.events ++ [.pr reg (Config.periphRead s.events reg)] }
  | _ => s

/-- `MemRead(a, 1)` (R51): the byte, and the state after the read. -/
def memRead (a : Word) (s : State) : Byte × State := (memPeek a s, memTouch a s)

/-- `MemWrite(a, 1, v)` (R52): RAM is written, the peripheral is told, everything else discards the byte. -/
def memWrite (a : Word) (v : Byte) (s : State) : State :=
  match route a with
  | .ram i => { s with ram := s.ram.write i v }
  | .periph reg => { s with events := s.events ++ [.pw reg v] }
  | .unmappedIo => s
  | .unmapped => s
  | .cart _ => s

/-- `Read16(a)`: low byte first, the high byte from the next address mod 2^16 (R58). -/
def read16 (a : Word) (s : State) : Word × State :=
  let lo := memRead a s
  let hi := memRead (a + 1) lo.2
  (mkWord hi.1 lo.1, hi.2)

/-- `ReadPtr(a)`: low byte first, the high byte from the same page (R104). -/
def readPtr (a : Word) (s : State) : Word × State :=
  let lo := memRead a s
  let hi := memRead (nextInPage a) lo.2
  (mkWord hi.1 lo.1, hi.2)

/-! ### The register file -/

/-- `x[r]`, read (R7, R20). -/
def readReg (r : Reg) (s : State) : Byte :=
  match r with
  | .a => s.a
  | .x => s.x
  | .y => s.y
  | .st => s.st
  | .sp => s.sp
  | .pcl => loByte s.pc
  | .pch => hiByte s.pc

/-- `x[r] <- v` (R7, R20). -/
def writeReg (r : Reg) (v : Byte) (s : State) : State :=
  match r with
  | .a => { s with a := v }
  | .x => { s with x := v }
  | .y => { s with y := v }
  | .st => { s with st := v }
  | .sp => { s with sp := v }
  | .pcl => { s with pc := mkWord (hiByte s.pc) v }
  | .pch => { s with pc := mkWord v (loByte s.pc) }

/-- `pc <- t`, the source's `init_pc` (R7, R33). -/
def State.setPc (t : Word) (s : State) : State := { s with pc := t }

/-- The register with identifier `id`; an identifier outside the seven is no register (R20; 92_eei_decisions.md D27). -/
def regOfId : Nat → Option Reg
  | 0 => some .a
  | 1 => some .x
  | 2 => some .y
  | 3 => some .st
  | 4 => some .sp
  | 5 => some .pcl
  | 6 => some .pch
  | _ => none

/-- `tapREG(id)`, the read-only accessor between transitions; none where `id` is no register (R276). -/
def tapReg (id : Nat) (s : State) : Option Byte := (regOfId id).map fun r => readReg r s

/-- `tapPC()` (R276). -/
def tapPc (s : State) : Word := s.pc

/-! ### Fetching a byte -/

/-- `Fetch8()`: the byte at `pc`, and `pc` advanced by one mod 2^16 (R34). -/
def fetch8 (s : State) : Byte × State :=
  let b := memRead s.pc s
  (b.1, b.2.setPc (s.pc + 1))

/-! ### Faults -/

/-- `raise F(info)`: what was done stays done, the fault is recorded, the core halts (R254). -/
def raise (f : FaultInfo) (s : State) : State := { s with fault := some f, ctl := .halted }

/-- The outcome of a transition that may have raised: a next state either way, halted where it raised (R254; log
entry 1). -/
def settle : Except State State → Result
  | .ok s => .next s
  | .error s => .next s

/-! ### The stack -/

/-- The address of stack slot `sp`: `{0x01, sp}` (R32, R62). -/
def stackAddr (sp : Byte) : Word := mkWord 0x01 sp

/-- `Push(v)`: the full stack faults before anything is written; else write, then decrement SP (R140). `opcAddr` and
`nth` are the information the fault records (R251). -/
def push (opcAddr : Word) (nth : Nat) (v : Byte) (s : State) : Except State State :=
  if s.sp = 0x00 then .error (raise (.stackOverflow s.sp opcAddr nth) s)
  else
    let t := memWrite (stackAddr s.sp) v s
    .ok { t with sp := s.sp - 1 }

/-- `Pop()`: the empty stack faults before anything is read; else increment SP, then read (R141). -/
def pop (opcAddr : Word) (nth : Nat) (s : State) : Except State (Byte × State) :=
  if s.sp = 0xFF then .error (raise (.stackUnderflow s.sp opcAddr nth) s)
  else .ok (memRead (stackAddr (s.sp + 1)) { s with sp := s.sp + 1 })

/-! ### Interrupts -/

/-- `IntEntry(vector, brk)`, the one entry sequence of `Nmi`, `Irq` and BRK: push PCH, PCL and the composed status, set
I, load `pc` from the vector (R261). -/
def intEntry (opcAddr : Word) (vector : Word) (brk : Bool) (s : State) : Except State State :=
  (push opcAddr 1 (hiByte s.pc) s).bind fun s1 =>
  (push opcAddr 2 (loByte s1.pc) s1).bind fun s2 =>
  (push opcAddr 3 (pushedStatus brk s2.st) s2).bind fun s3 =>
  let p := read16 vector (s3.setFlag .i true)
  .ok (p.2.setPc p.1)

/-- Return from an interrupt: pop ST whole, then PCL, then PCH; no plus one (R213, R271). -/
def intReturn (opcAddr : Word) (s : State) : Except State State :=
  (pop opcAddr 1 s).bind fun p =>
  (pop opcAddr 2 (writeReg .st p.1 p.2)).bind fun lo =>
  (pop opcAddr 3 lo.2).bind fun hi =>
  .ok (hi.2.setPc (mkWord hi.1 lo.1))

/-- `Rst`, enabled in every controller state (R266): registers to their construction values, fault and counters
cleared, `pc` from the reset vector, RAM kept, nothing pushed. -/
def rst (s : State) : State :=
  let s1 := { s with a := 0x00, x := 0x00, y := 0x00, st := Config.resetSt, sp := Config.resetSp,
                     fault := none, cyclesLeft := 0, penalty := 0 }
  let p := read16 Config.resetVector s1
  { p.2 with pc := p.1, ctl := .run }

/-- `Nmi` in Run: unconditional entry through 0xFFFA (R262). -/
def nmi (s : State) : Result := settle (intEntry s.pc Config.nmiVector false s)

/-- `Irq` in Run: entry through 0xFFFE where I is clear, else nothing at all (R263). -/
def irq (s : State) : Result :=
  if s.flag .i then .next s else settle (intEntry s.pc Config.irqVector false s)

end Sys2Proof.Machine
end

