-- ==== Sys2Proof/Syntax.lean ====
section
/-!
DEFINITION. The instructions: one constructor per row of spec/opcode_table.json, that is one per opcode byte
(spec/30_encoding.md R85), with the operand bytes as the encoding holds them; and each instruction's mnemonic and operand
form (R82).
-/

namespace Sys2Proof

/-- The 56 mnemonics (R85). -/
inductive Mnemonic where
  | adc | and | asl | bcc | bcs | beq | bit | bmi | bne | bpl | brk | bvc | bvs | clc
  | cld | cli | clv | cmp | cpx | cpy | dec | dex | dey | eor | inc | inx | iny | jmp
  | jsr | lda | ldx | ldy | lsr | nop | ora | pha | php | pla | plp | rol | ror | rti
  | rts | sbc | sec | sed | sei | sta | stx | sty | tax | tay | tsx | txa | txs | tya
  deriving DecidableEq, Repr

/-- The thirteen operand forms (R82). -/
inductive Form where
  | imp | acc | imm | zer | zex | zey | abs | abx | aby | ind | ixi | iix | rel
  deriving DecidableEq, Repr

/-- A memory form with its operand bytes: the resolver's modes but REL (R82, R112). `b1` is the byte after the opcode,
`b2` the one after that. -/
inductive Mem where
  | zer (b1 : Byte)
  | zex (b1 : Byte)
  | zey (b1 : Byte)
  | abs (b1 b2 : Byte)
  | abx (b1 b2 : Byte)
  | aby (b1 b2 : Byte)
  | ind (b1 b2 : Byte)
  | ixi (b1 : Byte)
  | iix (b1 : Byte)
  deriving DecidableEq, Repr

/-- What `LoadOperand` fetches from: the immediate byte or a memory form (R113). -/
inductive Src where
  | imm (b1 : Byte)
  | mem (m : Mem)
  deriving DecidableEq, Repr

/-- An operand form with its operand bytes (R82). -/
inductive Operand where
  /-- IMP: no operand, or a named register. -/
  | imp
  /-- ACC: register A, read and written. -/
  | acc
  /-- IMM or a memory form. -/
  | src (s : Src)
  /-- REL: a branch's displacement. -/
  | rel (b1 : Byte)
  deriving DecidableEq, Repr

/-- The form of a memory form. -/
def Mem.form : Mem → Form
  | .zer _ => .zer | .zex _ => .zex | .zey _ => .zey | .abs _ _ => .abs | .abx _ _ => .abx | .aby _ _ => .aby
  | .ind _ _ => .ind | .ixi _ => .ixi | .iix _ => .iix

/-- The form of an operand. -/
def Operand.form : Operand → Form
  | .imp => .imp
  | .acc => .acc
  | .src (.imm _) => .imm
  | .src (.mem m) => m.form
  | .rel _ => .rel

/-- The instructions. -/
inductive Instr where
  /-- ADC IMM, 0x69 (R152). -/
  | adcImm (b1 : Byte)
  /-- ADC ZER, 0x65 (R152). -/
  | adcZer (b1 : Byte)
  /-- ADC ZEX, 0x75 (R152). -/
  | adcZex (b1 : Byte)
  /-- ADC ABS, 0x6D (R152). -/
  | adcAbs (b1 b2 : Byte)
  /-- ADC ABX, 0x7D (R152). -/
  | adcAbx (b1 b2 : Byte)
  /-- ADC ABY, 0x79 (R152). -/
  | adcAby (b1 b2 : Byte)
  /-- ADC IXI, 0x61 (R152). -/
  | adcIxi (b1 : Byte)
  /-- ADC IIX, 0x71 (R152). -/
  | adcIix (b1 : Byte)
  /-- AND IMM, 0x29 (R154). -/
  | andImm (b1 : Byte)
  /-- AND ZER, 0x25 (R154). -/
  | andZer (b1 : Byte)
  /-- AND ZEX, 0x35 (R154). -/
  | andZex (b1 : Byte)
  /-- AND ABS, 0x2D (R154). -/
  | andAbs (b1 b2 : Byte)
  /-- AND ABX, 0x3D (R154). -/
  | andAbx (b1 b2 : Byte)
  /-- AND ABY, 0x39 (R154). -/
  | andAby (b1 b2 : Byte)
  /-- AND IXI, 0x21 (R154). -/
  | andIxi (b1 : Byte)
  /-- AND IIX, 0x31 (R154). -/
  | andIix (b1 : Byte)
  /-- ASL ACC, 0x0A (R171). -/
  | aslAcc
  /-- ASL ZER, 0x06 (R171). -/
  | aslZer (b1 : Byte)
  /-- ASL ZEX, 0x16 (R171). -/
  | aslZex (b1 : Byte)
  /-- ASL ABS, 0x0E (R171). -/
  | aslAbs (b1 b2 : Byte)
  /-- ASL ABX, 0x1E (R171). -/
  | aslAbx (b1 b2 : Byte)
  /-- BCC REL, 0x90 (R201). -/
  | bcc (b1 : Byte)
  /-- BCS REL, 0xB0 (R202). -/
  | bcs (b1 : Byte)
  /-- BEQ REL, 0xF0 (R203). -/
  | beq (b1 : Byte)
  /-- BIT ZER, 0x24 (R161). -/
  | bitZer (b1 : Byte)
  /-- BIT ABS, 0x2C (R161). -/
  | bitAbs (b1 b2 : Byte)
  /-- BMI REL, 0x30 (R205). -/
  | bmi (b1 : Byte)
  /-- BNE REL, 0xD0 (R204). -/
  | bne (b1 : Byte)
  /-- BPL REL, 0x10 (R206). -/
  | bpl (b1 : Byte)
  /-- BRK IMP, 0x00 (R212). -/
  | brk
  /-- BVC REL, 0x50 (R207). -/
  | bvc (b1 : Byte)
  /-- BVS REL, 0x70 (R208). -/
  | bvs (b1 : Byte)
  /-- CLC IMP, 0x18 (R183). -/
  | clc
  /-- CLD IMP, 0xD8 (R187). -/
  | cld
  /-- CLI IMP, 0x58 (R185). -/
  | cli
  /-- CLV IMP, 0xB8 (R188). -/
  | clv
  /-- CMP IMM, 0xC9 (R158). -/
  | cmpImm (b1 : Byte)
  /-- CMP ZER, 0xC5 (R158). -/
  | cmpZer (b1 : Byte)
  /-- CMP ZEX, 0xD5 (R158). -/
  | cmpZex (b1 : Byte)
  /-- CMP ABS, 0xCD (R158). -/
  | cmpAbs (b1 b2 : Byte)
  /-- CMP ABX, 0xDD (R158). -/
  | cmpAbx (b1 b2 : Byte)
  /-- CMP ABY, 0xD9 (R158). -/
  | cmpAby (b1 b2 : Byte)
  /-- CMP IXI, 0xC1 (R158). -/
  | cmpIxi (b1 : Byte)
  /-- CMP IIX, 0xD1 (R158). -/
  | cmpIix (b1 : Byte)
  /-- CPX IMM, 0xE0 (R159). -/
  | cpxImm (b1 : Byte)
  /-- CPX ZER, 0xE4 (R159). -/
  | cpxZer (b1 : Byte)
  /-- CPX ABS, 0xEC (R159). -/
  | cpxAbs (b1 b2 : Byte)
  /-- CPY IMM, 0xC0 (R160). -/
  | cpyImm (b1 : Byte)
  /-- CPY ZER, 0xC4 (R160). -/
  | cpyZer (b1 : Byte)
  /-- CPY ABS, 0xCC (R160). -/
  | cpyAbs (b1 b2 : Byte)
  /-- DEC ZER, 0xC6 (R176). -/
  | decZer (b1 : Byte)
  /-- DEC ZEX, 0xD6 (R176). -/
  | decZex (b1 : Byte)
  /-- DEC ABS, 0xCE (R176). -/
  | decAbs (b1 b2 : Byte)
  /-- DEC ABX, 0xDE (R176). -/
  | decAbx (b1 b2 : Byte)
  /-- DEX IMP, 0xCA (R179). -/
  | dex
  /-- DEY IMP, 0x88 (R180). -/
  | dey
  /-- EOR IMM, 0x49 (R155). -/
  | eorImm (b1 : Byte)
  /-- EOR ZER, 0x45 (R155). -/
  | eorZer (b1 : Byte)
  /-- EOR ZEX, 0x55 (R155). -/
  | eorZex (b1 : Byte)
  /-- EOR ABS, 0x4D (R155). -/
  | eorAbs (b1 b2 : Byte)
  /-- EOR ABX, 0x5D (R155). -/
  | eorAbx (b1 b2 : Byte)
  /-- EOR ABY, 0x59 (R155). -/
  | eorAby (b1 b2 : Byte)
  /-- EOR IXI, 0x41 (R155). -/
  | eorIxi (b1 : Byte)
  /-- EOR IIX, 0x51 (R155). -/
  | eorIix (b1 : Byte)
  /-- INC ZER, 0xE6 (R175). -/
  | incZer (b1 : Byte)
  /-- INC ZEX, 0xF6 (R175). -/
  | incZex (b1 : Byte)
  /-- INC ABS, 0xEE (R175). -/
  | incAbs (b1 b2 : Byte)
  /-- INC ABX, 0xFE (R175). -/
  | incAbx (b1 b2 : Byte)
  /-- INX IMP, 0xE8 (R177). -/
  | inx
  /-- INY IMP, 0xC8 (R178). -/
  | iny
  /-- JMP ABS, 0x4C (R209). -/
  | jmpAbs (b1 b2 : Byte)
  /-- JMP IND, 0x6C (R209). -/
  | jmpInd (b1 b2 : Byte)
  /-- JSR ABS, 0x20 (R210). -/
  | jsr (b1 b2 : Byte)
  /-- LDA IMM, 0xA9 (R121). -/
  | ldaImm (b1 : Byte)
  /-- LDA ZER, 0xA5 (R121). -/
  | ldaZer (b1 : Byte)
  /-- LDA ZEX, 0xB5 (R121). -/
  | ldaZex (b1 : Byte)
  /-- LDA ABS, 0xAD (R121). -/
  | ldaAbs (b1 b2 : Byte)
  /-- LDA ABX, 0xBD (R121). -/
  | ldaAbx (b1 b2 : Byte)
  /-- LDA ABY, 0xB9 (R121). -/
  | ldaAby (b1 b2 : Byte)
  /-- LDA IXI, 0xA1 (R121). -/
  | ldaIxi (b1 : Byte)
  /-- LDA IIX, 0xB1 (R121). -/
  | ldaIix (b1 : Byte)
  /-- LDX IMM, 0xA2 (R122). -/
  | ldxImm (b1 : Byte)
  /-- LDX ZER, 0xA6 (R122). -/
  | ldxZer (b1 : Byte)
  /-- LDX ZEY, 0xB6 (R122). -/
  | ldxZey (b1 : Byte)
  /-- LDX ABS, 0xAE (R122). -/
  | ldxAbs (b1 b2 : Byte)
  /-- LDX ABY, 0xBE (R122). -/
  | ldxAby (b1 b2 : Byte)
  /-- LDY IMM, 0xA0 (R123). -/
  | ldyImm (b1 : Byte)
  /-- LDY ZER, 0xA4 (R123). -/
  | ldyZer (b1 : Byte)
  /-- LDY ZEX, 0xB4 (R123). -/
  | ldyZex (b1 : Byte)
  /-- LDY ABS, 0xAC (R123). -/
  | ldyAbs (b1 b2 : Byte)
  /-- LDY ABX, 0xBC (R123). -/
  | ldyAbx (b1 b2 : Byte)
  /-- LSR ACC, 0x4A (R172). -/
  | lsrAcc
  /-- LSR ZER, 0x46 (R172). -/
  | lsrZer (b1 : Byte)
  /-- LSR ZEX, 0x56 (R172). -/
  | lsrZex (b1 : Byte)
  /-- LSR ABS, 0x4E (R172). -/
  | lsrAbs (b1 b2 : Byte)
  /-- LSR ABX, 0x5E (R172). -/
  | lsrAbx (b1 b2 : Byte)
  /-- NOP IMP, 0xEA (R189). -/
  | nop
  /-- ORA IMM, 0x09 (R156). -/
  | oraImm (b1 : Byte)
  /-- ORA ZER, 0x05 (R156). -/
  | oraZer (b1 : Byte)
  /-- ORA ZEX, 0x15 (R156). -/
  | oraZex (b1 : Byte)
  /-- ORA ABS, 0x0D (R156). -/
  | oraAbs (b1 b2 : Byte)
  /-- ORA ABX, 0x1D (R156). -/
  | oraAbx (b1 b2 : Byte)
  /-- ORA ABY, 0x19 (R156). -/
  | oraAby (b1 b2 : Byte)
  /-- ORA IXI, 0x01 (R156). -/
  | oraIxi (b1 : Byte)
  /-- ORA IIX, 0x11 (R156). -/
  | oraIix (b1 : Byte)
  /-- PHA IMP, 0x48 (R142). -/
  | pha
  /-- PHP IMP, 0x08 (R143). -/
  | php
  /-- PLA IMP, 0x68 (R144). -/
  | pla
  /-- PLP IMP, 0x28 (R145). -/
  | plp
  /-- ROL ACC, 0x2A (R173). -/
  | rolAcc
  /-- ROL ZER, 0x26 (R173). -/
  | rolZer (b1 : Byte)
  /-- ROL ZEX, 0x36 (R173). -/
  | rolZex (b1 : Byte)
  /-- ROL ABS, 0x2E (R173). -/
  | rolAbs (b1 b2 : Byte)
  /-- ROL ABX, 0x3E (R173). -/
  | rolAbx (b1 b2 : Byte)
  /-- ROR ACC, 0x6A (R174). -/
  | rorAcc
  /-- ROR ZER, 0x66 (R174). -/
  | rorZer (b1 : Byte)
  /-- ROR ZEX, 0x76 (R174). -/
  | rorZex (b1 : Byte)
  /-- ROR ABS, 0x6E (R174). -/
  | rorAbs (b1 b2 : Byte)
  /-- ROR ABX, 0x7E (R174). -/
  | rorAbx (b1 b2 : Byte)
  /-- RTI IMP, 0x40 (R213). -/
  | rti
  /-- RTS IMP, 0x60 (R211). -/
  | rts
  /-- SBC IMM, 0xE9 (R153). -/
  | sbcImm (b1 : Byte)
  /-- SBC ZER, 0xE5 (R153). -/
  | sbcZer (b1 : Byte)
  /-- SBC ZEX, 0xF5 (R153). -/
  | sbcZex (b1 : Byte)
  /-- SBC ABS, 0xED (R153). -/
  | sbcAbs (b1 b2 : Byte)
  /-- SBC ABX, 0xFD (R153). -/
  | sbcAbx (b1 b2 : Byte)
  /-- SBC ABY, 0xF9 (R153). -/
  | sbcAby (b1 b2 : Byte)
  /-- SBC IXI, 0xE1 (R153). -/
  | sbcIxi (b1 : Byte)
  /-- SBC IIX, 0xF1 (R153). -/
  | sbcIix (b1 : Byte)
  /-- SEC IMP, 0x38 (R182). -/
  | sec
  /-- SED IMP, 0xF8 (R186). -/
  | sed
  /-- SEI IMP, 0x78 (R184). -/
  | sei
  /-- STA ZER, 0x85 (R124). -/
  | staZer (b1 : Byte)
  /-- STA ZEX, 0x95 (R124). -/
  | staZex (b1 : Byte)
  /-- STA ABS, 0x8D (R124). -/
  | staAbs (b1 b2 : Byte)
  /-- STA ABX, 0x9D (R124). -/
  | staAbx (b1 b2 : Byte)
  /-- STA ABY, 0x99 (R124). -/
  | staAby (b1 b2 : Byte)
  /-- STA IXI, 0x81 (R124). -/
  | staIxi (b1 : Byte)
  /-- STA IIX, 0x91 (R124). -/
  | staIix (b1 : Byte)
  /-- STX ZER, 0x86 (R125). -/
  | stxZer (b1 : Byte)
  /-- STX ZEY, 0x96 (R125). -/
  | stxZey (b1 : Byte)
  /-- STX ABS, 0x8E (R125). -/
  | stxAbs (b1 b2 : Byte)
  /-- STY ZER, 0x84 (R126). -/
  | styZer (b1 : Byte)
  /-- STY ZEX, 0x94 (R126). -/
  | styZex (b1 : Byte)
  /-- STY ABS, 0x8C (R126). -/
  | styAbs (b1 b2 : Byte)
  /-- TAX IMP, 0xAA (R128). -/
  | tax
  /-- TAY IMP, 0xA8 (R129). -/
  | tay
  /-- TSX IMP, 0xBA (R132). -/
  | tsx
  /-- TXA IMP, 0x8A (R130). -/
  | txa
  /-- TXS IMP, 0x9A (R133). -/
  | txs
  /-- TYA IMP, 0x98 (R131). -/
  | tya
  deriving DecidableEq, Repr

/-- The instruction's mnemonic (R85). -/
def Instr.op : Instr → Mnemonic
  | .adcImm _ => .adc
  | .adcZer _ => .adc
  | .adcZex _ => .adc
  | .adcAbs _ _ => .adc
  | .adcAbx _ _ => .adc
  | .adcAby _ _ => .adc
  | .adcIxi _ => .adc
  | .adcIix _ => .adc
  | .andImm _ => .and
  | .andZer _ => .and
  | .andZex _ => .and
  | .andAbs _ _ => .and
  | .andAbx _ _ => .and
  | .andAby _ _ => .and
  | .andIxi _ => .and
  | .andIix _ => .and
  | .aslAcc => .asl
  | .aslZer _ => .asl
  | .aslZex _ => .asl
  | .aslAbs _ _ => .asl
  | .aslAbx _ _ => .asl
  | .bcc _ => .bcc
  | .bcs _ => .bcs
  | .beq _ => .beq
  | .bitZer _ => .bit
  | .bitAbs _ _ => .bit
  | .bmi _ => .bmi
  | .bne _ => .bne
  | .bpl _ => .bpl
  | .brk => .brk
  | .bvc _ => .bvc
  | .bvs _ => .bvs
  | .clc => .clc
  | .cld => .cld
  | .cli => .cli
  | .clv => .clv
  | .cmpImm _ => .cmp
  | .cmpZer _ => .cmp
  | .cmpZex _ => .cmp
  | .cmpAbs _ _ => .cmp
  | .cmpAbx _ _ => .cmp
  | .cmpAby _ _ => .cmp
  | .cmpIxi _ => .cmp
  | .cmpIix _ => .cmp
  | .cpxImm _ => .cpx
  | .cpxZer _ => .cpx
  | .cpxAbs _ _ => .cpx
  | .cpyImm _ => .cpy
  | .cpyZer _ => .cpy
  | .cpyAbs _ _ => .cpy
  | .decZer _ => .dec
  | .decZex _ => .dec
  | .decAbs _ _ => .dec
  | .decAbx _ _ => .dec
  | .dex => .dex
  | .dey => .dey
  | .eorImm _ => .eor
  | .eorZer _ => .eor
  | .eorZex _ => .eor
  | .eorAbs _ _ => .eor
  | .eorAbx _ _ => .eor
  | .eorAby _ _ => .eor
  | .eorIxi _ => .eor
  | .eorIix _ => .eor
  | .incZer _ => .inc
  | .incZex _ => .inc
  | .incAbs _ _ => .inc
  | .incAbx _ _ => .inc
  | .inx => .inx
  | .iny => .iny
  | .jmpAbs _ _ => .jmp
  | .jmpInd _ _ => .jmp
  | .jsr _ _ => .jsr
  | .ldaImm _ => .lda
  | .ldaZer _ => .lda
  | .ldaZex _ => .lda
  | .ldaAbs _ _ => .lda
  | .ldaAbx _ _ => .lda
  | .ldaAby _ _ => .lda
  | .ldaIxi _ => .lda
  | .ldaIix _ => .lda
  | .ldxImm _ => .ldx
  | .ldxZer _ => .ldx
  | .ldxZey _ => .ldx
  | .ldxAbs _ _ => .ldx
  | .ldxAby _ _ => .ldx
  | .ldyImm _ => .ldy
  | .ldyZer _ => .ldy
  | .ldyZex _ => .ldy
  | .ldyAbs _ _ => .ldy
  | .ldyAbx _ _ => .ldy
  | .lsrAcc => .lsr
  | .lsrZer _ => .lsr
  | .lsrZex _ => .lsr
  | .lsrAbs _ _ => .lsr
  | .lsrAbx _ _ => .lsr
  | .nop => .nop
  | .oraImm _ => .ora
  | .oraZer _ => .ora
  | .oraZex _ => .ora
  | .oraAbs _ _ => .ora
  | .oraAbx _ _ => .ora
  | .oraAby _ _ => .ora
  | .oraIxi _ => .ora
  | .oraIix _ => .ora
  | .pha => .pha
  | .php => .php
  | .pla => .pla
  | .plp => .plp
  | .rolAcc => .rol
  | .rolZer _ => .rol
  | .rolZex _ => .rol
  | .rolAbs _ _ => .rol
  | .rolAbx _ _ => .rol
  | .rorAcc => .ror
  | .rorZer _ => .ror
  | .rorZex _ => .ror
  | .rorAbs _ _ => .ror
  | .rorAbx _ _ => .ror
  | .rti => .rti
  | .rts => .rts
  | .sbcImm _ => .sbc
  | .sbcZer _ => .sbc
  | .sbcZex _ => .sbc
  | .sbcAbs _ _ => .sbc
  | .sbcAbx _ _ => .sbc
  | .sbcAby _ _ => .sbc
  | .sbcIxi _ => .sbc
  | .sbcIix _ => .sbc
  | .sec => .sec
  | .sed => .sed
  | .sei => .sei
  | .staZer _ => .sta
  | .staZex _ => .sta
  | .staAbs _ _ => .sta
  | .staAbx _ _ => .sta
  | .staAby _ _ => .sta
  | .staIxi _ => .sta
  | .staIix _ => .sta
  | .stxZer _ => .stx
  | .stxZey _ => .stx
  | .stxAbs _ _ => .stx
  | .styZer _ => .sty
  | .styZex _ => .sty
  | .styAbs _ _ => .sty
  | .tax => .tax
  | .tay => .tay
  | .tsx => .tsx
  | .txa => .txa
  | .txs => .txs
  | .tya => .tya

/-- The instruction's operand (R82, R85). -/
def Instr.operand : Instr → Operand
  | .adcImm b1 => .src (.imm b1)
  | .adcZer b1 => .src (.mem (.zer b1))
  | .adcZex b1 => .src (.mem (.zex b1))
  | .adcAbs b1 b2 => .src (.mem (.abs b1 b2))
  | .adcAbx b1 b2 => .src (.mem (.abx b1 b2))
  | .adcAby b1 b2 => .src (.mem (.aby b1 b2))
  | .adcIxi b1 => .src (.mem (.ixi b1))
  | .adcIix b1 => .src (.mem (.iix b1))
  | .andImm b1 => .src (.imm b1)
  | .andZer b1 => .src (.mem (.zer b1))
  | .andZex b1 => .src (.mem (.zex b1))
  | .andAbs b1 b2 => .src (.mem (.abs b1 b2))
  | .andAbx b1 b2 => .src (.mem (.abx b1 b2))
  | .andAby b1 b2 => .src (.mem (.aby b1 b2))
  | .andIxi b1 => .src (.mem (.ixi b1))
  | .andIix b1 => .src (.mem (.iix b1))
  | .aslAcc => .acc
  | .aslZer b1 => .src (.mem (.zer b1))
  | .aslZex b1 => .src (.mem (.zex b1))
  | .aslAbs b1 b2 => .src (.mem (.abs b1 b2))
  | .aslAbx b1 b2 => .src (.mem (.abx b1 b2))
  | .bcc b1 => .rel b1
  | .bcs b1 => .rel b1
  | .beq b1 => .rel b1
  | .bitZer b1 => .src (.mem (.zer b1))
  | .bitAbs b1 b2 => .src (.mem (.abs b1 b2))
  | .bmi b1 => .rel b1
  | .bne b1 => .rel b1
  | .bpl b1 => .rel b1
  | .brk => .imp
  | .bvc b1 => .rel b1
  | .bvs b1 => .rel b1
  | .clc => .imp
  | .cld => .imp
  | .cli => .imp
  | .clv => .imp
  | .cmpImm b1 => .src (.imm b1)
  | .cmpZer b1 => .src (.mem (.zer b1))
  | .cmpZex b1 => .src (.mem (.zex b1))
  | .cmpAbs b1 b2 => .src (.mem (.abs b1 b2))
  | .cmpAbx b1 b2 => .src (.mem (.abx b1 b2))
  | .cmpAby b1 b2 => .src (.mem (.aby b1 b2))
  | .cmpIxi b1 => .src (.mem (.ixi b1))
  | .cmpIix b1 => .src (.mem (.iix b1))
  | .cpxImm b1 => .src (.imm b1)
  | .cpxZer b1 => .src (.mem (.zer b1))
  | .cpxAbs b1 b2 => .src (.mem (.abs b1 b2))
  | .cpyImm b1 => .src (.imm b1)
  | .cpyZer b1 => .src (.mem (.zer b1))
  | .cpyAbs b1 b2 => .src (.mem (.abs b1 b2))
  | .decZer b1 => .src (.mem (.zer b1))
  | .decZex b1 => .src (.mem (.zex b1))
  | .decAbs b1 b2 => .src (.mem (.abs b1 b2))
  | .decAbx b1 b2 => .src (.mem (.abx b1 b2))
  | .dex => .imp
  | .dey => .imp
  | .eorImm b1 => .src (.imm b1)
  | .eorZer b1 => .src (.mem (.zer b1))
  | .eorZex b1 => .src (.mem (.zex b1))
  | .eorAbs b1 b2 => .src (.mem (.abs b1 b2))
  | .eorAbx b1 b2 => .src (.mem (.abx b1 b2))
  | .eorAby b1 b2 => .src (.mem (.aby b1 b2))
  | .eorIxi b1 => .src (.mem (.ixi b1))
  | .eorIix b1 => .src (.mem (.iix b1))
  | .incZer b1 => .src (.mem (.zer b1))
  | .incZex b1 => .src (.mem (.zex b1))
  | .incAbs b1 b2 => .src (.mem (.abs b1 b2))
  | .incAbx b1 b2 => .src (.mem (.abx b1 b2))
  | .inx => .imp
  | .iny => .imp
  | .jmpAbs b1 b2 => .src (.mem (.abs b1 b2))
  | .jmpInd b1 b2 => .src (.mem (.ind b1 b2))
  | .jsr b1 b2 => .src (.mem (.abs b1 b2))
  | .ldaImm b1 => .src (.imm b1)
  | .ldaZer b1 => .src (.mem (.zer b1))
  | .ldaZex b1 => .src (.mem (.zex b1))
  | .ldaAbs b1 b2 => .src (.mem (.abs b1 b2))
  | .ldaAbx b1 b2 => .src (.mem (.abx b1 b2))
  | .ldaAby b1 b2 => .src (.mem (.aby b1 b2))
  | .ldaIxi b1 => .src (.mem (.ixi b1))
  | .ldaIix b1 => .src (.mem (.iix b1))
  | .ldxImm b1 => .src (.imm b1)
  | .ldxZer b1 => .src (.mem (.zer b1))
  | .ldxZey b1 => .src (.mem (.zey b1))
  | .ldxAbs b1 b2 => .src (.mem (.abs b1 b2))
  | .ldxAby b1 b2 => .src (.mem (.aby b1 b2))
  | .ldyImm b1 => .src (.imm b1)
  | .ldyZer b1 => .src (.mem (.zer b1))
  | .ldyZex b1 => .src (.mem (.zex b1))
  | .ldyAbs b1 b2 => .src (.mem (.abs b1 b2))
  | .ldyAbx b1 b2 => .src (.mem (.abx b1 b2))
  | .lsrAcc => .acc
  | .lsrZer b1 => .src (.mem (.zer b1))
  | .lsrZex b1 => .src (.mem (.zex b1))
  | .lsrAbs b1 b2 => .src (.mem (.abs b1 b2))
  | .lsrAbx b1 b2 => .src (.mem (.abx b1 b2))
  | .nop => .imp
  | .oraImm b1 => .src (.imm b1)
  | .oraZer b1 => .src (.mem (.zer b1))
  | .oraZex b1 => .src (.mem (.zex b1))
  | .oraAbs b1 b2 => .src (.mem (.abs b1 b2))
  | .oraAbx b1 b2 => .src (.mem (.abx b1 b2))
  | .oraAby b1 b2 => .src (.mem (.aby b1 b2))
  | .oraIxi b1 => .src (.mem (.ixi b1))
  | .oraIix b1 => .src (.mem (.iix b1))
  | .pha => .imp
  | .php => .imp
  | .pla => .imp
  | .plp => .imp
  | .rolAcc => .acc
  | .rolZer b1 => .src (.mem (.zer b1))
  | .rolZex b1 => .src (.mem (.zex b1))
  | .rolAbs b1 b2 => .src (.mem (.abs b1 b2))
  | .rolAbx b1 b2 => .src (.mem (.abx b1 b2))
  | .rorAcc => .acc
  | .rorZer b1 => .src (.mem (.zer b1))
  | .rorZex b1 => .src (.mem (.zex b1))
  | .rorAbs b1 b2 => .src (.mem (.abs b1 b2))
  | .rorAbx b1 b2 => .src (.mem (.abx b1 b2))
  | .rti => .imp
  | .rts => .imp
  | .sbcImm b1 => .src (.imm b1)
  | .sbcZer b1 => .src (.mem (.zer b1))
  | .sbcZex b1 => .src (.mem (.zex b1))
  | .sbcAbs b1 b2 => .src (.mem (.abs b1 b2))
  | .sbcAbx b1 b2 => .src (.mem (.abx b1 b2))
  | .sbcAby b1 b2 => .src (.mem (.aby b1 b2))
  | .sbcIxi b1 => .src (.mem (.ixi b1))
  | .sbcIix b1 => .src (.mem (.iix b1))
  | .sec => .imp
  | .sed => .imp
  | .sei => .imp
  | .staZer b1 => .src (.mem (.zer b1))
  | .staZex b1 => .src (.mem (.zex b1))
  | .staAbs b1 b2 => .src (.mem (.abs b1 b2))
  | .staAbx b1 b2 => .src (.mem (.abx b1 b2))
  | .staAby b1 b2 => .src (.mem (.aby b1 b2))
  | .staIxi b1 => .src (.mem (.ixi b1))
  | .staIix b1 => .src (.mem (.iix b1))
  | .stxZer b1 => .src (.mem (.zer b1))
  | .stxZey b1 => .src (.mem (.zey b1))
  | .stxAbs b1 b2 => .src (.mem (.abs b1 b2))
  | .styZer b1 => .src (.mem (.zer b1))
  | .styZex b1 => .src (.mem (.zex b1))
  | .styAbs b1 b2 => .src (.mem (.abs b1 b2))
  | .tax => .imp
  | .tay => .imp
  | .tsx => .imp
  | .txa => .imp
  | .txs => .imp
  | .tya => .imp

/-- The instruction's operand form. -/
def Instr.form (i : Instr) : Form := i.operand.form

end Sys2Proof
end

