-- ==== Sys2Proof/Machine/Operands.lean ====
section
/-!
DEFINITION. The address-mode resolver and the operand fetch (spec/40_addressing.md R100 to R115).
-/

namespace Sys2Proof.Machine

/-- The resolver's closed enumeration of ten modes (R100). -/
inductive Mode where
  | abs | abx | aby | ind | iix | ixi | rel | zer | zex | zey
  deriving DecidableEq, Repr

/-- `get_addr(mode, addr, off)`: the effective address, and the state after the pointer reads (R100 to R111). -/
def getAddr (mode : Mode) (addr : Word) (off : Byte) (s : State) : Word × State :=
  match mode with
  | .abs => (addr, s)
  | .abx => (addr + zext16 s.x, s)
  | .aby => (addr + zext16 s.y, s)
  | .ind => readPtr addr s
  | .iix =>
    let p := readPtr addr s
    (p.1 + zext16 off, p.2)
  | .ixi => readPtr (mkWord 0x00 (loByte addr + off)) s
  | .rel => (if off.getLsbD 7 then s.pc - zext16 (~~~off + 1) else s.pc + zext16 off, s)
  | .zer => (zext16 off, s)
  | .zex => (zext16 (s.x + off), s)
  | .zey => (zext16 (s.y + off), s)

/-- `EA(form)`, the effective address of an instruction with a memory form (R112). -/
def ea (m : Mem) (s : State) : Word × State :=
  match m with
  | .zer b1 => getAddr .zer 0x0000 b1 s
  | .zex b1 => getAddr .zex 0x0000 b1 s
  | .zey b1 => getAddr .zey 0x0000 b1 s
  | .abs b1 b2 => getAddr .abs (mkWord b2 b1) 0x00 s
  | .abx b1 b2 => getAddr .abx (mkWord b2 b1) 0x00 s
  | .aby b1 b2 => getAddr .aby (mkWord b2 b1) 0x00 s
  | .ind b1 b2 => getAddr .ind (mkWord b2 b1) 0x00 s
  | .ixi b1 => getAddr .ixi (zext16 b1) s.x s
  | .iix b1 => getAddr .iix (zext16 b1) s.y s

/-- `Crossed(form)`: form ABX, ABY or IIX, and the high byte of EA differs from that of the unindexed base (R115). -/
def crossed (m : Mem) (s : State) : Bool :=
  match m with
  | .abx _ b2 => hiByte (ea m s).1 != b2
  | .aby _ b2 => hiByte (ea m s).1 != b2
  | .iix b1 => hiByte (ea m s).1 != hiByte (readPtr (zext16 b1) s).1
  | _ => false

/-- Add penalty cycles: timing only (R37, R304). -/
def State.addPenalty (n : Nat) (s : State) : State := { s with penalty := s.penalty + n }

/-- `LoadOperand(form)`: the immediate byte, or one read at EA (R113). It is the operand fetch of the read instructions,
so the page-crossing penalty is charged here (R304 (a)). -/
def loadOperand (src : Src) (s : State) : Byte × State :=
  match src with
  | .imm b1 => (b1, s)
  | .mem m =>
    let p := ea m s
    let d := memRead p.1 p.2
    (d.1, d.2.addPenalty (if crossed m s then 1 else 0))

end Sys2Proof.Machine
end

