-- ==== Sys2Proof/Machine/Alu.lean ====
section
/-!
DEFINITION. ALU arithmetic, logic and compare (spec/43_alu_arith_logic.md). The operand is fetched first, then the
register is read, then the result and the flags are written (R150).
-/

namespace Sys2Proof.Machine

/-- ADC and SBC: `f` is the addition, given A, the operand and the carry in; C, V, A, then `SetNZ` (R152, R153). -/
def addToA (f : Byte → Byte → Bool → AddResult) (src : Src) (s : State) : State :=
  let p := loadOperand src s
  let t := f p.2.a p.1 (p.2.flag .c)
  setNZ t.r (writeReg .a t.r ((p.2.setFlag .c t.carry).setFlag .v t.overflow))

/-- AND, EOR, ORA: a bitwise operation of A and the operand, written back, then `SetNZ` (R154 to R156). -/
def logic (f : Byte → Byte → Byte) (src : Src) (s : State) : State :=
  let p := loadOperand src s
  let r := f p.2.a p.1
  setNZ r (writeReg .a r p.2)

/-- `cmp(reg, …)`: C says register ≥ operand unsigned, then `SetNZ` of the 8-bit difference; no register is written
(R157). -/
def compareReg (r : Reg) (src : Src) (s : State) : State :=
  let p := loadOperand src s
  let v := readReg r p.2
  setNZ (v - p.1) (p.2.setFlag .c (decide (p.1 ≤ v)))

/-- BIT: Z from A AND operand, N and V from the operand's bits 7 and 6 (R161). -/
def bitTest (src : Src) (s : State) : State :=
  let p := loadOperand src s
  ((p.2.setFlag .z (p.2.a &&& p.1 == 0x00)).setFlag .n (p.1.getLsbD 7)).setFlag .v (p.1.getLsbD 6)

/-- ADC IMM (R152). -/
def execAdcImm (b1 : Byte) (s : State) : Result := .next (addToA addWithCarry (.imm b1) s)

/-- ADC ZER (R152). -/
def execAdcZer (b1 : Byte) (s : State) : Result := .next (addToA addWithCarry (.mem (.zer b1)) s)

/-- ADC ZEX (R152). -/
def execAdcZex (b1 : Byte) (s : State) : Result := .next (addToA addWithCarry (.mem (.zex b1)) s)

/-- ADC ABS (R152). -/
def execAdcAbs (b1 b2 : Byte) (s : State) : Result := .next (addToA addWithCarry (.mem (.abs b1 b2)) s)

/-- ADC ABX (R152). -/
def execAdcAbx (b1 b2 : Byte) (s : State) : Result := .next (addToA addWithCarry (.mem (.abx b1 b2)) s)

/-- ADC ABY (R152). -/
def execAdcAby (b1 b2 : Byte) (s : State) : Result := .next (addToA addWithCarry (.mem (.aby b1 b2)) s)

/-- ADC IXI (R152). -/
def execAdcIxi (b1 : Byte) (s : State) : Result := .next (addToA addWithCarry (.mem (.ixi b1)) s)

/-- ADC IIX (R152). -/
def execAdcIix (b1 : Byte) (s : State) : Result := .next (addToA addWithCarry (.mem (.iix b1)) s)

/-- SBC IMM (R153). -/
def execSbcImm (b1 : Byte) (s : State) : Result := .next (addToA subWithBorrow (.imm b1) s)

/-- SBC ZER (R153). -/
def execSbcZer (b1 : Byte) (s : State) : Result := .next (addToA subWithBorrow (.mem (.zer b1)) s)

/-- SBC ZEX (R153). -/
def execSbcZex (b1 : Byte) (s : State) : Result := .next (addToA subWithBorrow (.mem (.zex b1)) s)

/-- SBC ABS (R153). -/
def execSbcAbs (b1 b2 : Byte) (s : State) : Result := .next (addToA subWithBorrow (.mem (.abs b1 b2)) s)

/-- SBC ABX (R153). -/
def execSbcAbx (b1 b2 : Byte) (s : State) : Result := .next (addToA subWithBorrow (.mem (.abx b1 b2)) s)

/-- SBC ABY (R153). -/
def execSbcAby (b1 b2 : Byte) (s : State) : Result := .next (addToA subWithBorrow (.mem (.aby b1 b2)) s)

/-- SBC IXI (R153). -/
def execSbcIxi (b1 : Byte) (s : State) : Result := .next (addToA subWithBorrow (.mem (.ixi b1)) s)

/-- SBC IIX (R153). -/
def execSbcIix (b1 : Byte) (s : State) : Result := .next (addToA subWithBorrow (.mem (.iix b1)) s)

/-- AND IMM (R154). -/
def execAndImm (b1 : Byte) (s : State) : Result := .next (logic (· &&& ·) (.imm b1) s)

/-- AND ZER (R154). -/
def execAndZer (b1 : Byte) (s : State) : Result := .next (logic (· &&& ·) (.mem (.zer b1)) s)

/-- AND ZEX (R154). -/
def execAndZex (b1 : Byte) (s : State) : Result := .next (logic (· &&& ·) (.mem (.zex b1)) s)

/-- AND ABS (R154). -/
def execAndAbs (b1 b2 : Byte) (s : State) : Result := .next (logic (· &&& ·) (.mem (.abs b1 b2)) s)

/-- AND ABX (R154). -/
def execAndAbx (b1 b2 : Byte) (s : State) : Result := .next (logic (· &&& ·) (.mem (.abx b1 b2)) s)

/-- AND ABY (R154). -/
def execAndAby (b1 b2 : Byte) (s : State) : Result := .next (logic (· &&& ·) (.mem (.aby b1 b2)) s)

/-- AND IXI (R154). -/
def execAndIxi (b1 : Byte) (s : State) : Result := .next (logic (· &&& ·) (.mem (.ixi b1)) s)

/-- AND IIX (R154). -/
def execAndIix (b1 : Byte) (s : State) : Result := .next (logic (· &&& ·) (.mem (.iix b1)) s)

/-- EOR IMM (R155). -/
def execEorImm (b1 : Byte) (s : State) : Result := .next (logic (· ^^^ ·) (.imm b1) s)

/-- EOR ZER (R155). -/
def execEorZer (b1 : Byte) (s : State) : Result := .next (logic (· ^^^ ·) (.mem (.zer b1)) s)

/-- EOR ZEX (R155). -/
def execEorZex (b1 : Byte) (s : State) : Result := .next (logic (· ^^^ ·) (.mem (.zex b1)) s)

/-- EOR ABS (R155). -/
def execEorAbs (b1 b2 : Byte) (s : State) : Result := .next (logic (· ^^^ ·) (.mem (.abs b1 b2)) s)

/-- EOR ABX (R155). -/
def execEorAbx (b1 b2 : Byte) (s : State) : Result := .next (logic (· ^^^ ·) (.mem (.abx b1 b2)) s)

/-- EOR ABY (R155). -/
def execEorAby (b1 b2 : Byte) (s : State) : Result := .next (logic (· ^^^ ·) (.mem (.aby b1 b2)) s)

/-- EOR IXI (R155). -/
def execEorIxi (b1 : Byte) (s : State) : Result := .next (logic (· ^^^ ·) (.mem (.ixi b1)) s)

/-- EOR IIX (R155). -/
def execEorIix (b1 : Byte) (s : State) : Result := .next (logic (· ^^^ ·) (.mem (.iix b1)) s)

/-- ORA IMM (R156). -/
def execOraImm (b1 : Byte) (s : State) : Result := .next (logic (· ||| ·) (.imm b1) s)

/-- ORA ZER (R156). -/
def execOraZer (b1 : Byte) (s : State) : Result := .next (logic (· ||| ·) (.mem (.zer b1)) s)

/-- ORA ZEX (R156). -/
def execOraZex (b1 : Byte) (s : State) : Result := .next (logic (· ||| ·) (.mem (.zex b1)) s)

/-- ORA ABS (R156). -/
def execOraAbs (b1 b2 : Byte) (s : State) : Result := .next (logic (· ||| ·) (.mem (.abs b1 b2)) s)

/-- ORA ABX (R156). -/
def execOraAbx (b1 b2 : Byte) (s : State) : Result := .next (logic (· ||| ·) (.mem (.abx b1 b2)) s)

/-- ORA ABY (R156). -/
def execOraAby (b1 b2 : Byte) (s : State) : Result := .next (logic (· ||| ·) (.mem (.aby b1 b2)) s)

/-- ORA IXI (R156). -/
def execOraIxi (b1 : Byte) (s : State) : Result := .next (logic (· ||| ·) (.mem (.ixi b1)) s)

/-- ORA IIX (R156). -/
def execOraIix (b1 : Byte) (s : State) : Result := .next (logic (· ||| ·) (.mem (.iix b1)) s)

/-- CMP IMM (R158). -/
def execCmpImm (b1 : Byte) (s : State) : Result := .next (compareReg .a (.imm b1) s)

/-- CMP ZER (R158). -/
def execCmpZer (b1 : Byte) (s : State) : Result := .next (compareReg .a (.mem (.zer b1)) s)

/-- CMP ZEX (R158). -/
def execCmpZex (b1 : Byte) (s : State) : Result := .next (compareReg .a (.mem (.zex b1)) s)

/-- CMP ABS (R158). -/
def execCmpAbs (b1 b2 : Byte) (s : State) : Result := .next (compareReg .a (.mem (.abs b1 b2)) s)

/-- CMP ABX (R158). -/
def execCmpAbx (b1 b2 : Byte) (s : State) : Result := .next (compareReg .a (.mem (.abx b1 b2)) s)

/-- CMP ABY (R158). -/
def execCmpAby (b1 b2 : Byte) (s : State) : Result := .next (compareReg .a (.mem (.aby b1 b2)) s)

/-- CMP IXI (R158). -/
def execCmpIxi (b1 : Byte) (s : State) : Result := .next (compareReg .a (.mem (.ixi b1)) s)

/-- CMP IIX (R158). -/
def execCmpIix (b1 : Byte) (s : State) : Result := .next (compareReg .a (.mem (.iix b1)) s)

/-- CPX IMM (R159). -/
def execCpxImm (b1 : Byte) (s : State) : Result := .next (compareReg .x (.imm b1) s)

/-- CPX ZER (R159). -/
def execCpxZer (b1 : Byte) (s : State) : Result := .next (compareReg .x (.mem (.zer b1)) s)

/-- CPX ABS (R159). -/
def execCpxAbs (b1 b2 : Byte) (s : State) : Result := .next (compareReg .x (.mem (.abs b1 b2)) s)

/-- CPY IMM (R160). -/
def execCpyImm (b1 : Byte) (s : State) : Result := .next (compareReg .y (.imm b1) s)

/-- CPY ZER (R160). -/
def execCpyZer (b1 : Byte) (s : State) : Result := .next (compareReg .y (.mem (.zer b1)) s)

/-- CPY ABS (R160). -/
def execCpyAbs (b1 b2 : Byte) (s : State) : Result := .next (compareReg .y (.mem (.abs b1 b2)) s)

/-- BIT ZER (R161). -/
def execBitZer (b1 : Byte) (s : State) : Result := .next (bitTest (.mem (.zer b1)) s)

/-- BIT ABS (R161). -/
def execBitAbs (b1 b2 : Byte) (s : State) : Result := .next (bitTest (.mem (.abs b1 b2)) s)

end Sys2Proof.Machine
end

