-- ==== Sys2Proof/Machine/Control.lean ====
section
/-!
DEFINITION. Branches, jumps, subroutines, BRK and RTI (spec/45_control_flow.md). `pc` holds the address after the
instruction, so the opcode's address is `pc` less the instruction's length (46_controller.md R233; log entry 12).
-/

namespace Sys2Proof.Machine

/-- A taken branch: `pc` to the relative target, one penalty cycle (R200). -/
def takeBranch (off : Byte) (s : State) : State :=
  (s.setPc (getAddr .rel 0x0000 off s).1).addPenalty 1

/-- `brc_set(mask, off)`: branch if the masked bit of ST is set (R200). -/
def brcSet (mask off : Byte) (s : State) : State := if s.st &&& mask ≠ 0x00 then takeBranch off s else s

/-- `brc_rst(mask, off)`: branch if the masked bit of ST is clear (R200). -/
def brcRst (mask off : Byte) (s : State) : State := if s.st &&& mask = 0x00 then takeBranch off s else s

/-- JMP: `pc <- EA(form)` (R209). -/
def jump (m : Mem) (s : State) : State :=
  let p := ea m s
  p.2.setPc p.1

/-- JSR: push the address of its own third byte, high byte first, then jump (R210). -/
def callSub (b1 b2 : Byte) (s : State) : Except State State :=
  let t := s.pc - 1
  (push (s.pc - 3) 1 (hiByte t) s).bind fun s1 =>
  (push (s.pc - 3) 2 (loByte t) s1).bind fun s2 =>
  .ok (s2.setPc (mkWord b2 b1))

/-- RTS: pop low, then high, add one mod 2^16 (R211). -/
def returnSub (s : State) : Except State State :=
  (pop (s.pc - 1) 1 s).bind fun lo =>
  (pop (s.pc - 1) 2 lo.2).bind fun hi =>
  .ok (hi.2.setPc (mkWord hi.1 lo.1 + 1))

/-- BRK: skip the padding byte unread, then enter through 0xFFFE with B set in the pushed status (R212). -/
def softInterrupt (s : State) : Except State State :=
  intEntry (s.pc - 1) Config.irqVector true (s.setPc (s.pc + 1))

/-- RTI: the shared return from an interrupt (R213). -/
def interruptReturn (s : State) : Except State State := intReturn (s.pc - 1) s

/-- BCC REL (R201). -/
def execBcc (b1 : Byte) (s : State) : Result := .next (brcRst (Flag.mask .c) b1 s)

/-- BCS REL (R202). -/
def execBcs (b1 : Byte) (s : State) : Result := .next (brcSet (Flag.mask .c) b1 s)

/-- BEQ REL (R203). -/
def execBeq (b1 : Byte) (s : State) : Result := .next (brcSet (Flag.mask .z) b1 s)

/-- BNE REL (R204). -/
def execBne (b1 : Byte) (s : State) : Result := .next (brcRst (Flag.mask .z) b1 s)

/-- BMI REL (R205). -/
def execBmi (b1 : Byte) (s : State) : Result := .next (brcSet (Flag.mask .n) b1 s)

/-- BPL REL (R206). -/
def execBpl (b1 : Byte) (s : State) : Result := .next (brcRst (Flag.mask .n) b1 s)

/-- BVC REL (R207). -/
def execBvc (b1 : Byte) (s : State) : Result := .next (brcRst (Flag.mask .v) b1 s)

/-- BVS REL (R208). -/
def execBvs (b1 : Byte) (s : State) : Result := .next (brcSet (Flag.mask .v) b1 s)

/-- JMP ABS (R209). -/
def execJmpAbs (b1 b2 : Byte) (s : State) : Result := .next (jump (.abs b1 b2) s)

/-- JMP IND (R209). -/
def execJmpInd (b1 b2 : Byte) (s : State) : Result := .next (jump (.ind b1 b2) s)

/-- JSR ABS (R210). -/
def execJsr (b1 b2 : Byte) (s : State) : Result := settle (callSub b1 b2 s)

/-- RTS IMP (R211). -/
def execRts (s : State) : Result := settle (returnSub s)

/-- BRK IMP (R212). -/
def execBrk (s : State) : Result := settle (softInterrupt s)

/-- RTI IMP (R213). -/
def execRti (s : State) : Result := settle (interruptReturn s)

end Sys2Proof.Machine
end

