-- ==== Sys2Proof/Machine/LoadStore.lean ====
section
/-!
DEFINITION. Loads, stores and register transfers (spec/41_load_store_transfer.md).
-/

namespace Sys2Proof.Machine

/-- A load: the operand goes to the register, then `SetNZ` of it (R120). -/
def load (r : Reg) (src : Src) (s : State) : State :=
  let p := loadOperand src s
  setNZ p.1 (writeReg r p.1 p.2)

/-- A store: one write of the register at EA; no flag, no register (R120). -/
def store (r : Reg) (m : Mem) (s : State) : State :=
  let p := ea m s
  memWrite p.1 (readReg r p.2) p.2

/-- `tr(des, src)`: a copy, then `SetNZ` unless the destination is SP (R127). -/
def transfer (des src : Reg) (s : State) : State :=
  let v := readReg src s
  let t := writeReg des v s
  if des = .sp then t else setNZ v t

/-- LDA IMM (R121). -/
def execLdaImm (b1 : Byte) (s : State) : Result := .next (load .a (.imm b1) s)

/-- LDA ZER (R121). -/
def execLdaZer (b1 : Byte) (s : State) : Result := .next (load .a (.mem (.zer b1)) s)

/-- LDA ZEX (R121). -/
def execLdaZex (b1 : Byte) (s : State) : Result := .next (load .a (.mem (.zex b1)) s)

/-- LDA ABS (R121). -/
def execLdaAbs (b1 b2 : Byte) (s : State) : Result := .next (load .a (.mem (.abs b1 b2)) s)

/-- LDA ABX (R121). -/
def execLdaAbx (b1 b2 : Byte) (s : State) : Result := .next (load .a (.mem (.abx b1 b2)) s)

/-- LDA ABY (R121). -/
def execLdaAby (b1 b2 : Byte) (s : State) : Result := .next (load .a (.mem (.aby b1 b2)) s)

/-- LDA IXI (R121). -/
def execLdaIxi (b1 : Byte) (s : State) : Result := .next (load .a (.mem (.ixi b1)) s)

/-- LDA IIX (R121). -/
def execLdaIix (b1 : Byte) (s : State) : Result := .next (load .a (.mem (.iix b1)) s)

/-- LDX IMM (R122). -/
def execLdxImm (b1 : Byte) (s : State) : Result := .next (load .x (.imm b1) s)

/-- LDX ZER (R122). -/
def execLdxZer (b1 : Byte) (s : State) : Result := .next (load .x (.mem (.zer b1)) s)

/-- LDX ZEY (R122). -/
def execLdxZey (b1 : Byte) (s : State) : Result := .next (load .x (.mem (.zey b1)) s)

/-- LDX ABS (R122). -/
def execLdxAbs (b1 b2 : Byte) (s : State) : Result := .next (load .x (.mem (.abs b1 b2)) s)

/-- LDX ABY (R122). -/
def execLdxAby (b1 b2 : Byte) (s : State) : Result := .next (load .x (.mem (.aby b1 b2)) s)

/-- LDY IMM (R123). -/
def execLdyImm (b1 : Byte) (s : State) : Result := .next (load .y (.imm b1) s)

/-- LDY ZER (R123). -/
def execLdyZer (b1 : Byte) (s : State) : Result := .next (load .y (.mem (.zer b1)) s)

/-- LDY ZEX (R123). -/
def execLdyZex (b1 : Byte) (s : State) : Result := .next (load .y (.mem (.zex b1)) s)

/-- LDY ABS (R123). -/
def execLdyAbs (b1 b2 : Byte) (s : State) : Result := .next (load .y (.mem (.abs b1 b2)) s)

/-- LDY ABX (R123). -/
def execLdyAbx (b1 b2 : Byte) (s : State) : Result := .next (load .y (.mem (.abx b1 b2)) s)

/-- STA ZER (R124). -/
def execStaZer (b1 : Byte) (s : State) : Result := .next (store .a (.zer b1) s)

/-- STA ZEX (R124). -/
def execStaZex (b1 : Byte) (s : State) : Result := .next (store .a (.zex b1) s)

/-- STA ABS (R124). -/
def execStaAbs (b1 b2 : Byte) (s : State) : Result := .next (store .a (.abs b1 b2) s)

/-- STA ABX (R124). -/
def execStaAbx (b1 b2 : Byte) (s : State) : Result := .next (store .a (.abx b1 b2) s)

/-- STA ABY (R124). -/
def execStaAby (b1 b2 : Byte) (s : State) : Result := .next (store .a (.aby b1 b2) s)

/-- STA IXI (R124). -/
def execStaIxi (b1 : Byte) (s : State) : Result := .next (store .a (.ixi b1) s)

/-- STA IIX (R124). -/
def execStaIix (b1 : Byte) (s : State) : Result := .next (store .a (.iix b1) s)

/-- STX ZER (R125). -/
def execStxZer (b1 : Byte) (s : State) : Result := .next (store .x (.zer b1) s)

/-- STX ZEY (R125). -/
def execStxZey (b1 : Byte) (s : State) : Result := .next (store .x (.zey b1) s)

/-- STX ABS (R125). -/
def execStxAbs (b1 b2 : Byte) (s : State) : Result := .next (store .x (.abs b1 b2) s)

/-- STY ZER (R126). -/
def execStyZer (b1 : Byte) (s : State) : Result := .next (store .y (.zer b1) s)

/-- STY ZEX (R126). -/
def execStyZex (b1 : Byte) (s : State) : Result := .next (store .y (.zex b1) s)

/-- STY ABS (R126). -/
def execStyAbs (b1 b2 : Byte) (s : State) : Result := .next (store .y (.abs b1 b2) s)

/-- TAX IMP (R128). -/
def execTax (s : State) : Result := .next (transfer .x .a s)

/-- TAY IMP (R129). -/
def execTay (s : State) : Result := .next (transfer .y .a s)

/-- TXA IMP (R130). -/
def execTxa (s : State) : Result := .next (transfer .a .x s)

/-- TYA IMP (R131). -/
def execTya (s : State) : Result := .next (transfer .a .y s)

/-- TSX IMP (R132). -/
def execTsx (s : State) : Result := .next (transfer .x .sp s)

/-- TXS IMP (R133). -/
def execTxs (s : State) : Result := .next (transfer .sp .x s)

end Sys2Proof.Machine
end

