-- ==== Sys2Proof/Machine/Shift.lean ====
section
/-!
DEFINITION. Shifts, rotates, increments, decrements, flag instructions, NOP (spec/44_alu_shift_incdec_flag.md).
-/

namespace Sys2Proof.Machine

/-- A shift or rotate of A: `op` takes the old byte and the old carry and gives the new byte and the new carry (R170). -/
def shiftA (op : Byte → Bool → Byte × Bool) (s : State) : State :=
  let q := op s.a (s.flag .c)
  writeReg .a q.1 (setNZ q.1 (s.setFlag .c q.2))

/-- A shift or rotate of a memory byte: one read and one write at EA (R170). -/
def shiftMem (op : Byte → Bool → Byte × Bool) (m : Mem) (s : State) : State :=
  let p := ea m s
  let v := memRead p.1 p.2
  let q := op v.1 (v.2.flag .c)
  memWrite p.1 q.1 (setNZ q.1 (v.2.setFlag .c q.2))

/-- INC, DEC of a memory byte: one read and one write at EA, `SetNZ` of the new byte (R175, R176). -/
def stepMem (f : Byte → Byte) (m : Mem) (s : State) : State :=
  let p := ea m s
  let v := memRead p.1 p.2
  let r := f v.1
  memWrite p.1 r (setNZ r v.2)

/-- INX, INY, DEX, DEY: the register stepped by one mod 2^8, then `SetNZ` (R177 to R180). -/
def stepReg (f : Byte → Byte) (r : Reg) (s : State) : State :=
  let v := f (readReg r s)
  setNZ v (writeReg r v s)

/-- `set_flag(mask)` on ST (R181). -/
def setMask (mask : Byte) (s : State) : State := { s with st := orMask mask s.st }

/-- `clr_flag(mask)` on ST (R181). -/
def clrMask (mask : Byte) (s : State) : State := { s with st := clearMask mask s.st }

/-- ASL ACC (R171). -/
def execAslAcc (s : State) : Result := .next (shiftA aslOp s)

/-- ASL ZER (R171). -/
def execAslZer (b1 : Byte) (s : State) : Result := .next (shiftMem aslOp (.zer b1) s)

/-- ASL ZEX (R171). -/
def execAslZex (b1 : Byte) (s : State) : Result := .next (shiftMem aslOp (.zex b1) s)

/-- ASL ABS (R171). -/
def execAslAbs (b1 b2 : Byte) (s : State) : Result := .next (shiftMem aslOp (.abs b1 b2) s)

/-- ASL ABX (R171). -/
def execAslAbx (b1 b2 : Byte) (s : State) : Result := .next (shiftMem aslOp (.abx b1 b2) s)

/-- LSR ACC (R172). -/
def execLsrAcc (s : State) : Result := .next (shiftA lsrOp s)

/-- LSR ZER (R172). -/
def execLsrZer (b1 : Byte) (s : State) : Result := .next (shiftMem lsrOp (.zer b1) s)

/-- LSR ZEX (R172). -/
def execLsrZex (b1 : Byte) (s : State) : Result := .next (shiftMem lsrOp (.zex b1) s)

/-- LSR ABS (R172). -/
def execLsrAbs (b1 b2 : Byte) (s : State) : Result := .next (shiftMem lsrOp (.abs b1 b2) s)

/-- LSR ABX (R172). -/
def execLsrAbx (b1 b2 : Byte) (s : State) : Result := .next (shiftMem lsrOp (.abx b1 b2) s)

/-- ROL ACC (R173). -/
def execRolAcc (s : State) : Result := .next (shiftA rolOp s)

/-- ROL ZER (R173). -/
def execRolZer (b1 : Byte) (s : State) : Result := .next (shiftMem rolOp (.zer b1) s)

/-- ROL ZEX (R173). -/
def execRolZex (b1 : Byte) (s : State) : Result := .next (shiftMem rolOp (.zex b1) s)

/-- ROL ABS (R173). -/
def execRolAbs (b1 b2 : Byte) (s : State) : Result := .next (shiftMem rolOp (.abs b1 b2) s)

/-- ROL ABX (R173). -/
def execRolAbx (b1 b2 : Byte) (s : State) : Result := .next (shiftMem rolOp (.abx b1 b2) s)

/-- ROR ACC (R174). -/
def execRorAcc (s : State) : Result := .next (shiftA rorOp s)

/-- ROR ZER (R174). -/
def execRorZer (b1 : Byte) (s : State) : Result := .next (shiftMem rorOp (.zer b1) s)

/-- ROR ZEX (R174). -/
def execRorZex (b1 : Byte) (s : State) : Result := .next (shiftMem rorOp (.zex b1) s)

/-- ROR ABS (R174). -/
def execRorAbs (b1 b2 : Byte) (s : State) : Result := .next (shiftMem rorOp (.abs b1 b2) s)

/-- ROR ABX (R174). -/
def execRorAbx (b1 b2 : Byte) (s : State) : Result := .next (shiftMem rorOp (.abx b1 b2) s)

/-- INC ZER (R175). -/
def execIncZer (b1 : Byte) (s : State) : Result := .next (stepMem (· + 1) (.zer b1) s)

/-- INC ZEX (R175). -/
def execIncZex (b1 : Byte) (s : State) : Result := .next (stepMem (· + 1) (.zex b1) s)

/-- INC ABS (R175). -/
def execIncAbs (b1 b2 : Byte) (s : State) : Result := .next (stepMem (· + 1) (.abs b1 b2) s)

/-- INC ABX (R175). -/
def execIncAbx (b1 b2 : Byte) (s : State) : Result := .next (stepMem (· + 1) (.abx b1 b2) s)

/-- DEC ZER (R176). -/
def execDecZer (b1 : Byte) (s : State) : Result := .next (stepMem (· - 1) (.zer b1) s)

/-- DEC ZEX (R176). -/
def execDecZex (b1 : Byte) (s : State) : Result := .next (stepMem (· - 1) (.zex b1) s)

/-- DEC ABS (R176). -/
def execDecAbs (b1 b2 : Byte) (s : State) : Result := .next (stepMem (· - 1) (.abs b1 b2) s)

/-- DEC ABX (R176). -/
def execDecAbx (b1 b2 : Byte) (s : State) : Result := .next (stepMem (· - 1) (.abx b1 b2) s)

/-- INX IMP (R177). -/
def execInx (s : State) : Result := .next (stepReg (· + 1) .x s)

/-- INY IMP (R178). -/
def execIny (s : State) : Result := .next (stepReg (· + 1) .y s)

/-- DEX IMP (R179). -/
def execDex (s : State) : Result := .next (stepReg (· - 1) .x s)

/-- DEY IMP (R180). -/
def execDey (s : State) : Result := .next (stepReg (· - 1) .y s)

/-- SEC IMP (R182). -/
def execSec (s : State) : Result := .next (setMask (Flag.mask .c) s)

/-- CLC IMP (R183). -/
def execClc (s : State) : Result := .next (clrMask (Flag.mask .c) s)

/-- SEI IMP (R184). -/
def execSei (s : State) : Result := .next (setMask (Flag.mask .i) s)

/-- CLI IMP (R185). -/
def execCli (s : State) : Result := .next (clrMask (Flag.mask .i) s)

/-- SED IMP (R186). -/
def execSed (s : State) : Result := .next (setMask (Flag.mask .d) s)

/-- CLD IMP (R187). -/
def execCld (s : State) : Result := .next (clrMask (Flag.mask .d) s)

/-- CLV IMP (R188). -/
def execClv (s : State) : Result := .next (clrMask (Flag.mask .v) s)

/-- NOP IMP (R189). -/
def execNop (s : State) : Result := .next s

end Sys2Proof.Machine
end

