-- ==== Sys2Proof/Machine/Stack.lean ====
section
/-!
DEFINITION. Stack push and pull instructions (spec/42_stack.md). Each is one byte long, so its opcode's address is
`pc - 1` (46_controller.md R233; log entry 12).
-/

namespace Sys2Proof.Machine

/-- PHA's pseudocode: `Push(x[A])` (R142). -/
def pushA (s : State) : Except State State := push (s.pc - 1) 1 s.a s

/-- PHP's pseudocode: `Push(x[ST] | 0x30)` (R143). -/
def pushStatus (s : State) : Except State State := push (s.pc - 1) 1 (pushedStatus true s.st) s

/-- PLA's pseudocode: the pulled byte to A, then `SetNZ` (R144). -/
def pullA (s : State) : Except State State :=
  (pop (s.pc - 1) 1 s).bind fun p => .ok (setNZ p.1 (writeReg .a p.1 p.2))

/-- PLP's pseudocode: the pulled byte to ST, all eight bits, no `SetNZ` (R145). -/
def pullStatus (s : State) : Except State State :=
  (pop (s.pc - 1) 1 s).bind fun p => .ok (writeReg .st p.1 p.2)

/-- PHA IMP (R142). -/
def execPha (s : State) : Result := settle (pushA s)

/-- PHP IMP (R143). -/
def execPhp (s : State) : Result := settle (pushStatus s)

/-- PLA IMP (R144). -/
def execPla (s : State) : Result := settle (pullA s)

/-- PLP IMP (R145). -/
def execPlp (s : State) : Result := settle (pullStatus s)

end Sys2Proof.Machine
end

