-- ==== Sys2Proof/Machine/Dispatch.lean ====
section
/-!
DEFINITION. `exec`: one arm per constructor of Instr, each one direct call of the instruction's meaning
(spec/46_controller.md R234).
-/

namespace Sys2Proof.Machine

/-- What an instruction does once all its bytes are fetched (R234): `s.pc` is the address after the instruction (R233). -/
def exec (i : Instr) (s : State) : Host.Outcome State Fault Refusal :=
  match i with
  | .adcImm b1 => Sys2Proof.Machine.execAdcImm b1 s
  | .adcZer b1 => Sys2Proof.Machine.execAdcZer b1 s
  | .adcZex b1 => Sys2Proof.Machine.execAdcZex b1 s
  | .adcAbs b1 b2 => Sys2Proof.Machine.execAdcAbs b1 b2 s
  | .adcAbx b1 b2 => Sys2Proof.Machine.execAdcAbx b1 b2 s
  | .adcAby b1 b2 => Sys2Proof.Machine.execAdcAby b1 b2 s
  | .adcIxi b1 => Sys2Proof.Machine.execAdcIxi b1 s
  | .adcIix b1 => Sys2Proof.Machine.execAdcIix b1 s
  | .andImm b1 => Sys2Proof.Machine.execAndImm b1 s
  | .andZer b1 => Sys2Proof.Machine.execAndZer b1 s
  | .andZex b1 => Sys2Proof.Machine.execAndZex b1 s
  | .andAbs b1 b2 => Sys2Proof.Machine.execAndAbs b1 b2 s
  | .andAbx b1 b2 => Sys2Proof.Machine.execAndAbx b1 b2 s
  | .andAby b1 b2 => Sys2Proof.Machine.execAndAby b1 b2 s
  | .andIxi b1 => Sys2Proof.Machine.execAndIxi b1 s
  | .andIix b1 => Sys2Proof.Machine.execAndIix b1 s
  | .aslAcc => Sys2Proof.Machine.execAslAcc s
  | .aslZer b1 => Sys2Proof.Machine.execAslZer b1 s
  | .aslZex b1 => Sys2Proof.Machine.execAslZex b1 s
  | .aslAbs b1 b2 => Sys2Proof.Machine.execAslAbs b1 b2 s
  | .aslAbx b1 b2 => Sys2Proof.Machine.execAslAbx b1 b2 s
  | .bcc b1 => Sys2Proof.Machine.execBcc b1 s
  | .bcs b1 => Sys2Proof.Machine.execBcs b1 s
  | .beq b1 => Sys2Proof.Machine.execBeq b1 s
  | .bitZer b1 => Sys2Proof.Machine.execBitZer b1 s
  | .bitAbs b1 b2 => Sys2Proof.Machine.execBitAbs b1 b2 s
  | .bmi b1 => Sys2Proof.Machine.execBmi b1 s
  | .bne b1 => Sys2Proof.Machine.execBne b1 s
  | .bpl b1 => Sys2Proof.Machine.execBpl b1 s
  | .brk => Sys2Proof.Machine.execBrk s
  | .bvc b1 => Sys2Proof.Machine.execBvc b1 s
  | .bvs b1 => Sys2Proof.Machine.execBvs b1 s
  | .clc => Sys2Proof.Machine.execClc s
  | .cld => Sys2Proof.Machine.execCld s
  | .cli => Sys2Proof.Machine.execCli s
  | .clv => Sys2Proof.Machine.execClv s
  | .cmpImm b1 => Sys2Proof.Machine.execCmpImm b1 s
  | .cmpZer b1 => Sys2Proof.Machine.execCmpZer b1 s
  | .cmpZex b1 => Sys2Proof.Machine.execCmpZex b1 s
  | .cmpAbs b1 b2 => Sys2Proof.Machine.execCmpAbs b1 b2 s
  | .cmpAbx b1 b2 => Sys2Proof.Machine.execCmpAbx b1 b2 s
  | .cmpAby b1 b2 => Sys2Proof.Machine.execCmpAby b1 b2 s
  | .cmpIxi b1 => Sys2Proof.Machine.execCmpIxi b1 s
  | .cmpIix b1 => Sys2Proof.Machine.execCmpIix b1 s
  | .cpxImm b1 => Sys2Proof.Machine.execCpxImm b1 s
  | .cpxZer b1 => Sys2Proof.Machine.execCpxZer b1 s
  | .cpxAbs b1 b2 => Sys2Proof.Machine.execCpxAbs b1 b2 s
  | .cpyImm b1 => Sys2Proof.Machine.execCpyImm b1 s
  | .cpyZer b1 => Sys2Proof.Machine.execCpyZer b1 s
  | .cpyAbs b1 b2 => Sys2Proof.Machine.execCpyAbs b1 b2 s
  | .decZer b1 => Sys2Proof.Machine.execDecZer b1 s
  | .decZex b1 => Sys2Proof.Machine.execDecZex b1 s
  | .decAbs b1 b2 => Sys2Proof.Machine.execDecAbs b1 b2 s
  | .decAbx b1 b2 => Sys2Proof.Machine.execDecAbx b1 b2 s
  | .dex => Sys2Proof.Machine.execDex s
  | .dey => Sys2Proof.Machine.execDey s
  | .eorImm b1 => Sys2Proof.Machine.execEorImm b1 s
  | .eorZer b1 => Sys2Proof.Machine.execEorZer b1 s
  | .eorZex b1 => Sys2Proof.Machine.execEorZex b1 s
  | .eorAbs b1 b2 => Sys2Proof.Machine.execEorAbs b1 b2 s
  | .eorAbx b1 b2 => Sys2Proof.Machine.execEorAbx b1 b2 s
  | .eorAby b1 b2 => Sys2Proof.Machine.execEorAby b1 b2 s
  | .eorIxi b1 => Sys2Proof.Machine.execEorIxi b1 s
  | .eorIix b1 => Sys2Proof.Machine.execEorIix b1 s
  | .incZer b1 => Sys2Proof.Machine.execIncZer b1 s
  | .incZex b1 => Sys2Proof.Machine.execIncZex b1 s
  | .incAbs b1 b2 => Sys2Proof.Machine.execIncAbs b1 b2 s
  | .incAbx b1 b2 => Sys2Proof.Machine.execIncAbx b1 b2 s
  | .inx => Sys2Proof.Machine.execInx s
  | .iny => Sys2Proof.Machine.execIny s
  | .jmpAbs b1 b2 => Sys2Proof.Machine.execJmpAbs b1 b2 s
  | .jmpInd b1 b2 => Sys2Proof.Machine.execJmpInd b1 b2 s
  | .jsr b1 b2 => Sys2Proof.Machine.execJsr b1 b2 s
  | .ldaImm b1 => Sys2Proof.Machine.execLdaImm b1 s
  | .ldaZer b1 => Sys2Proof.Machine.execLdaZer b1 s
  | .ldaZex b1 => Sys2Proof.Machine.execLdaZex b1 s
  | .ldaAbs b1 b2 => Sys2Proof.Machine.execLdaAbs b1 b2 s
  | .ldaAbx b1 b2 => Sys2Proof.Machine.execLdaAbx b1 b2 s
  | .ldaAby b1 b2 => Sys2Proof.Machine.execLdaAby b1 b2 s
  | .ldaIxi b1 => Sys2Proof.Machine.execLdaIxi b1 s
  | .ldaIix b1 => Sys2Proof.Machine.execLdaIix b1 s
  | .ldxImm b1 => Sys2Proof.Machine.execLdxImm b1 s
  | .ldxZer b1 => Sys2Proof.Machine.execLdxZer b1 s
  | .ldxZey b1 => Sys2Proof.Machine.execLdxZey b1 s
  | .ldxAbs b1 b2 => Sys2Proof.Machine.execLdxAbs b1 b2 s
  | .ldxAby b1 b2 => Sys2Proof.Machine.execLdxAby b1 b2 s
  | .ldyImm b1 => Sys2Proof.Machine.execLdyImm b1 s
  | .ldyZer b1 => Sys2Proof.Machine.execLdyZer b1 s
  | .ldyZex b1 => Sys2Proof.Machine.execLdyZex b1 s
  | .ldyAbs b1 b2 => Sys2Proof.Machine.execLdyAbs b1 b2 s
  | .ldyAbx b1 b2 => Sys2Proof.Machine.execLdyAbx b1 b2 s
  | .lsrAcc => Sys2Proof.Machine.execLsrAcc s
  | .lsrZer b1 => Sys2Proof.Machine.execLsrZer b1 s
  | .lsrZex b1 => Sys2Proof.Machine.execLsrZex b1 s
  | .lsrAbs b1 b2 => Sys2Proof.Machine.execLsrAbs b1 b2 s
  | .lsrAbx b1 b2 => Sys2Proof.Machine.execLsrAbx b1 b2 s
  | .nop => Sys2Proof.Machine.execNop s
  | .oraImm b1 => Sys2Proof.Machine.execOraImm b1 s
  | .oraZer b1 => Sys2Proof.Machine.execOraZer b1 s
  | .oraZex b1 => Sys2Proof.Machine.execOraZex b1 s
  | .oraAbs b1 b2 => Sys2Proof.Machine.execOraAbs b1 b2 s
  | .oraAbx b1 b2 => Sys2Proof.Machine.execOraAbx b1 b2 s
  | .oraAby b1 b2 => Sys2Proof.Machine.execOraAby b1 b2 s
  | .oraIxi b1 => Sys2Proof.Machine.execOraIxi b1 s
  | .oraIix b1 => Sys2Proof.Machine.execOraIix b1 s
  | .pha => Sys2Proof.Machine.execPha s
  | .php => Sys2Proof.Machine.execPhp s
  | .pla => Sys2Proof.Machine.execPla s
  | .plp => Sys2Proof.Machine.execPlp s
  | .rolAcc => Sys2Proof.Machine.execRolAcc s
  | .rolZer b1 => Sys2Proof.Machine.execRolZer b1 s
  | .rolZex b1 => Sys2Proof.Machine.execRolZex b1 s
  | .rolAbs b1 b2 => Sys2Proof.Machine.execRolAbs b1 b2 s
  | .rolAbx b1 b2 => Sys2Proof.Machine.execRolAbx b1 b2 s
  | .rorAcc => Sys2Proof.Machine.execRorAcc s
  | .rorZer b1 => Sys2Proof.Machine.execRorZer b1 s
  | .rorZex b1 => Sys2Proof.Machine.execRorZex b1 s
  | .rorAbs b1 b2 => Sys2Proof.Machine.execRorAbs b1 b2 s
  | .rorAbx b1 b2 => Sys2Proof.Machine.execRorAbx b1 b2 s
  | .rti => Sys2Proof.Machine.execRti s
  | .rts => Sys2Proof.Machine.execRts s
  | .sbcImm b1 => Sys2Proof.Machine.execSbcImm b1 s
  | .sbcZer b1 => Sys2Proof.Machine.execSbcZer b1 s
  | .sbcZex b1 => Sys2Proof.Machine.execSbcZex b1 s
  | .sbcAbs b1 b2 => Sys2Proof.Machine.execSbcAbs b1 b2 s
  | .sbcAbx b1 b2 => Sys2Proof.Machine.execSbcAbx b1 b2 s
  | .sbcAby b1 b2 => Sys2Proof.Machine.execSbcAby b1 b2 s
  | .sbcIxi b1 => Sys2Proof.Machine.execSbcIxi b1 s
  | .sbcIix b1 => Sys2Proof.Machine.execSbcIix b1 s
  | .sec => Sys2Proof.Machine.execSec s
  | .sed => Sys2Proof.Machine.execSed s
  | .sei => Sys2Proof.Machine.execSei s
  | .staZer b1 => Sys2Proof.Machine.execStaZer b1 s
  | .staZex b1 => Sys2Proof.Machine.execStaZex b1 s
  | .staAbs b1 b2 => Sys2Proof.Machine.execStaAbs b1 b2 s
  | .staAbx b1 b2 => Sys2Proof.Machine.execStaAbx b1 b2 s
  | .staAby b1 b2 => Sys2Proof.Machine.execStaAby b1 b2 s
  | .staIxi b1 => Sys2Proof.Machine.execStaIxi b1 s
  | .staIix b1 => Sys2Proof.Machine.execStaIix b1 s
  | .stxZer b1 => Sys2Proof.Machine.execStxZer b1 s
  | .stxZey b1 => Sys2Proof.Machine.execStxZey b1 s
  | .stxAbs b1 b2 => Sys2Proof.Machine.execStxAbs b1 b2 s
  | .styZer b1 => Sys2Proof.Machine.execStyZer b1 s
  | .styZex b1 => Sys2Proof.Machine.execStyZex b1 s
  | .styAbs b1 b2 => Sys2Proof.Machine.execStyAbs b1 b2 s
  | .tax => Sys2Proof.Machine.execTax s
  | .tay => Sys2Proof.Machine.execTay s
  | .tsx => Sys2Proof.Machine.execTsx s
  | .txa => Sys2Proof.Machine.execTxa s
  | .txs => Sys2Proof.Machine.execTxs s
  | .tya => Sys2Proof.Machine.execTya s

end Sys2Proof.Machine
end

