-- ==== Sys2Proof/WellFormed.lean ====
section
/-!
DEFINITION. Which instructions exist: a mnemonic goes with exactly the operand forms that have an opcode
(spec/30_encoding.md R85, the table by mnemonic; "an empty cell means the combination does not exist"). Operand bytes are
unconstrained (R87).
-/

namespace Sys2Proof

/-- The operand forms a mnemonic has (R85, the table by mnemonic). -/
def Mnemonic.forms : Mnemonic → List Form
  | .adc => [.imm, .zer, .zex, .abs, .abx, .aby, .ixi, .iix]
  | .and => [.imm, .zer, .zex, .abs, .abx, .aby, .ixi, .iix]
  | .asl => [.acc, .zer, .zex, .abs, .abx]
  | .bcc => [.rel]
  | .bcs => [.rel]
  | .beq => [.rel]
  | .bit => [.zer, .abs]
  | .bmi => [.rel]
  | .bne => [.rel]
  | .bpl => [.rel]
  | .brk => [.imp]
  | .bvc => [.rel]
  | .bvs => [.rel]
  | .clc => [.imp]
  | .cld => [.imp]
  | .cli => [.imp]
  | .clv => [.imp]
  | .cmp => [.imm, .zer, .zex, .abs, .abx, .aby, .ixi, .iix]
  | .cpx => [.imm, .zer, .abs]
  | .cpy => [.imm, .zer, .abs]
  | .dec => [.zer, .zex, .abs, .abx]
  | .dex => [.imp]
  | .dey => [.imp]
  | .eor => [.imm, .zer, .zex, .abs, .abx, .aby, .ixi, .iix]
  | .inc => [.zer, .zex, .abs, .abx]
  | .inx => [.imp]
  | .iny => [.imp]
  | .jmp => [.abs, .ind]
  | .jsr => [.abs]
  | .lda => [.imm, .zer, .zex, .abs, .abx, .aby, .ixi, .iix]
  | .ldx => [.imm, .zer, .zey, .abs, .aby]
  | .ldy => [.imm, .zer, .zex, .abs, .abx]
  | .lsr => [.acc, .zer, .zex, .abs, .abx]
  | .nop => [.imp]
  | .ora => [.imm, .zer, .zex, .abs, .abx, .aby, .ixi, .iix]
  | .pha => [.imp]
  | .php => [.imp]
  | .pla => [.imp]
  | .plp => [.imp]
  | .rol => [.acc, .zer, .zex, .abs, .abx]
  | .ror => [.acc, .zer, .zex, .abs, .abx]
  | .rti => [.imp]
  | .rts => [.imp]
  | .sbc => [.imm, .zer, .zex, .abs, .abx, .aby, .ixi, .iix]
  | .sec => [.imp]
  | .sed => [.imp]
  | .sei => [.imp]
  | .sta => [.zer, .zex, .abs, .abx, .aby, .ixi, .iix]
  | .stx => [.zer, .zey, .abs]
  | .sty => [.zer, .zex, .abs]
  | .tax => [.imp]
  | .tay => [.imp]
  | .tsx => [.imp]
  | .txa => [.imp]
  | .txs => [.imp]
  | .tya => [.imp]

/-- The mnemonic exists in this operand form (R85, R88). -/
def pairExists (m : Mnemonic) (f : Form) : Bool := m.forms.contains f

/-- The instruction pairs its mnemonic with a form that exists. The constructors of `Instr` make no other pairs, and every
operand byte is legal (R87), so this holds of every instruction. -/
def Instr.wellFormed (i : Instr) : Bool := pairExists i.op i.form

end Sys2Proof
end

