-- ==== Sys2Proof/Decode.lean ====
section
/-!
DEFINITION. The decoder, total on any bytes and rejecting by name, then the encoder (spec/30_encoding.md R80 to R92).
The decoder's rows are the table by byte value of R85; the encoder's bytes are those of the instruction rules of files 41
to 45.
-/

namespace Sys2Proof

/-- The number of bytes of an instruction of this form: formats F1, F2, F3 (R80, R81). -/
def Form.length : Form → Nat
  | .imp | .acc => 1
  | .imm | .zer | .zex | .zey | .ixi | .iix | .rel => 2
  | .abs | .abx | .aby | .ind => 3

/-- The instruction's length in bytes (R81). -/
def Instr.length (i : Instr) : Nat := i.form.length

/-- One defined opcode byte: its form, and the instruction it makes of its operand bytes. A form takes from `b1` and `b2`
what its format has (R80). -/
structure Row where
  opcode : Byte
  form : Form
  build : Byte → Byte → Instr

/-- Row 0x of the table by byte value (R85). -/
def rows0 : List Row := [
  ⟨0x00, .imp, fun _ _ => .brk⟩,
  ⟨0x01, .ixi, fun b1 _ => .oraIxi b1⟩,
  ⟨0x05, .zer, fun b1 _ => .oraZer b1⟩,
  ⟨0x06, .zer, fun b1 _ => .aslZer b1⟩,
  ⟨0x08, .imp, fun _ _ => .php⟩,
  ⟨0x09, .imm, fun b1 _ => .oraImm b1⟩,
  ⟨0x0A, .acc, fun _ _ => .aslAcc⟩,
  ⟨0x0D, .abs, fun b1 b2 => .oraAbs b1 b2⟩,
  ⟨0x0E, .abs, fun b1 b2 => .aslAbs b1 b2⟩]

/-- Row 1x of the table by byte value (R85). -/
def rows1 : List Row := [
  ⟨0x10, .rel, fun b1 _ => .bpl b1⟩,
  ⟨0x11, .iix, fun b1 _ => .oraIix b1⟩,
  ⟨0x15, .zex, fun b1 _ => .oraZex b1⟩,
  ⟨0x16, .zex, fun b1 _ => .aslZex b1⟩,
  ⟨0x18, .imp, fun _ _ => .clc⟩,
  ⟨0x19, .aby, fun b1 b2 => .oraAby b1 b2⟩,
  ⟨0x1D, .abx, fun b1 b2 => .oraAbx b1 b2⟩,
  ⟨0x1E, .abx, fun b1 b2 => .aslAbx b1 b2⟩]

/-- Row 2x of the table by byte value (R85). -/
def rows2 : List Row := [
  ⟨0x20, .abs, fun b1 b2 => .jsr b1 b2⟩,
  ⟨0x21, .ixi, fun b1 _ => .andIxi b1⟩,
  ⟨0x24, .zer, fun b1 _ => .bitZer b1⟩,
  ⟨0x25, .zer, fun b1 _ => .andZer b1⟩,
  ⟨0x26, .zer, fun b1 _ => .rolZer b1⟩,
  ⟨0x28, .imp, fun _ _ => .plp⟩,
  ⟨0x29, .imm, fun b1 _ => .andImm b1⟩,
  ⟨0x2A, .acc, fun _ _ => .rolAcc⟩,
  ⟨0x2C, .abs, fun b1 b2 => .bitAbs b1 b2⟩,
  ⟨0x2D, .abs, fun b1 b2 => .andAbs b1 b2⟩,
  ⟨0x2E, .abs, fun b1 b2 => .rolAbs b1 b2⟩]

/-- Row 3x of the table by byte value (R85). -/
def rows3 : List Row := [
  ⟨0x30, .rel, fun b1 _ => .bmi b1⟩,
  ⟨0x31, .iix, fun b1 _ => .andIix b1⟩,
  ⟨0x35, .zex, fun b1 _ => .andZex b1⟩,
  ⟨0x36, .zex, fun b1 _ => .rolZex b1⟩,
  ⟨0x38, .imp, fun _ _ => .sec⟩,
  ⟨0x39, .aby, fun b1 b2 => .andAby b1 b2⟩,
  ⟨0x3D, .abx, fun b1 b2 => .andAbx b1 b2⟩,
  ⟨0x3E, .abx, fun b1 b2 => .rolAbx b1 b2⟩]

/-- Row 4x of the table by byte value (R85). -/
def rows4 : List Row := [
  ⟨0x40, .imp, fun _ _ => .rti⟩,
  ⟨0x41, .ixi, fun b1 _ => .eorIxi b1⟩,
  ⟨0x45, .zer, fun b1 _ => .eorZer b1⟩,
  ⟨0x46, .zer, fun b1 _ => .lsrZer b1⟩,
  ⟨0x48, .imp, fun _ _ => .pha⟩,
  ⟨0x49, .imm, fun b1 _ => .eorImm b1⟩,
  ⟨0x4A, .acc, fun _ _ => .lsrAcc⟩,
  ⟨0x4C, .abs, fun b1 b2 => .jmpAbs b1 b2⟩,
  ⟨0x4D, .abs, fun b1 b2 => .eorAbs b1 b2⟩,
  ⟨0x4E, .abs, fun b1 b2 => .lsrAbs b1 b2⟩]

/-- Row 5x of the table by byte value (R85). -/
def rows5 : List Row := [
  ⟨0x50, .rel, fun b1 _ => .bvc b1⟩,
  ⟨0x51, .iix, fun b1 _ => .eorIix b1⟩,
  ⟨0x55, .zex, fun b1 _ => .eorZex b1⟩,
  ⟨0x56, .zex, fun b1 _ => .lsrZex b1⟩,
  ⟨0x58, .imp, fun _ _ => .cli⟩,
  ⟨0x59, .aby, fun b1 b2 => .eorAby b1 b2⟩,
  ⟨0x5D, .abx, fun b1 b2 => .eorAbx b1 b2⟩,
  ⟨0x5E, .abx, fun b1 b2 => .lsrAbx b1 b2⟩]

/-- Row 6x of the table by byte value (R85). -/
def rows6 : List Row := [
  ⟨0x60, .imp, fun _ _ => .rts⟩,
  ⟨0x61, .ixi, fun b1 _ => .adcIxi b1⟩,
  ⟨0x65, .zer, fun b1 _ => .adcZer b1⟩,
  ⟨0x66, .zer, fun b1 _ => .rorZer b1⟩,
  ⟨0x68, .imp, fun _ _ => .pla⟩,
  ⟨0x69, .imm, fun b1 _ => .adcImm b1⟩,
  ⟨0x6A, .acc, fun _ _ => .rorAcc⟩,
  ⟨0x6C, .ind, fun b1 b2 => .jmpInd b1 b2⟩,
  ⟨0x6D, .abs, fun b1 b2 => .adcAbs b1 b2⟩,
  ⟨0x6E, .abs, fun b1 b2 => .rorAbs b1 b2⟩]

/-- Row 7x of the table by byte value (R85). -/
def rows7 : List Row := [
  ⟨0x70, .rel, fun b1 _ => .bvs b1⟩,
  ⟨0x71, .iix, fun b1 _ => .adcIix b1⟩,
  ⟨0x75, .zex, fun b1 _ => .adcZex b1⟩,
  ⟨0x76, .zex, fun b1 _ => .rorZex b1⟩,
  ⟨0x78, .imp, fun _ _ => .sei⟩,
  ⟨0x79, .aby, fun b1 b2 => .adcAby b1 b2⟩,
  ⟨0x7D, .abx, fun b1 b2 => .adcAbx b1 b2⟩,
  ⟨0x7E, .abx, fun b1 b2 => .rorAbx b1 b2⟩]

/-- Row 8x of the table by byte value (R85). -/
def rows8 : List Row := [
  ⟨0x81, .ixi, fun b1 _ => .staIxi b1⟩,
  ⟨0x84, .zer, fun b1 _ => .styZer b1⟩,
  ⟨0x85, .zer, fun b1 _ => .staZer b1⟩,
  ⟨0x86, .zer, fun b1 _ => .stxZer b1⟩,
  ⟨0x88, .imp, fun _ _ => .dey⟩,
  ⟨0x8A, .imp, fun _ _ => .txa⟩,
  ⟨0x8C, .abs, fun b1 b2 => .styAbs b1 b2⟩,
  ⟨0x8D, .abs, fun b1 b2 => .staAbs b1 b2⟩,
  ⟨0x8E, .abs, fun b1 b2 => .stxAbs b1 b2⟩]

/-- Row 9x of the table by byte value (R85). -/
def rows9 : List Row := [
  ⟨0x90, .rel, fun b1 _ => .bcc b1⟩,
  ⟨0x91, .iix, fun b1 _ => .staIix b1⟩,
  ⟨0x94, .zex, fun b1 _ => .styZex b1⟩,
  ⟨0x95, .zex, fun b1 _ => .staZex b1⟩,
  ⟨0x96, .zey, fun b1 _ => .stxZey b1⟩,
  ⟨0x98, .imp, fun _ _ => .tya⟩,
  ⟨0x99, .aby, fun b1 b2 => .staAby b1 b2⟩,
  ⟨0x9A, .imp, fun _ _ => .txs⟩,
  ⟨0x9D, .abx, fun b1 b2 => .staAbx b1 b2⟩]

/-- Row Ax of the table by byte value (R85). -/
def rowsA : List Row := [
  ⟨0xA0, .imm, fun b1 _ => .ldyImm b1⟩,
  ⟨0xA1, .ixi, fun b1 _ => .ldaIxi b1⟩,
  ⟨0xA2, .imm, fun b1 _ => .ldxImm b1⟩,
  ⟨0xA4, .zer, fun b1 _ => .ldyZer b1⟩,
  ⟨0xA5, .zer, fun b1 _ => .ldaZer b1⟩,
  ⟨0xA6, .zer, fun b1 _ => .ldxZer b1⟩,
  ⟨0xA8, .imp, fun _ _ => .tay⟩,
  ⟨0xA9, .imm, fun b1 _ => .ldaImm b1⟩,
  ⟨0xAA, .imp, fun _ _ => .tax⟩,
  ⟨0xAC, .abs, fun b1 b2 => .ldyAbs b1 b2⟩,
  ⟨0xAD, .abs, fun b1 b2 => .ldaAbs b1 b2⟩,
  ⟨0xAE, .abs, fun b1 b2 => .ldxAbs b1 b2⟩]

/-- Row Bx of the table by byte value (R85). -/
def rowsB : List Row := [
  ⟨0xB0, .rel, fun b1 _ => .bcs b1⟩,
  ⟨0xB1, .iix, fun b1 _ => .ldaIix b1⟩,
  ⟨0xB4, .zex, fun b1 _ => .ldyZex b1⟩,
  ⟨0xB5, .zex, fun b1 _ => .ldaZex b1⟩,
  ⟨0xB6, .zey, fun b1 _ => .ldxZey b1⟩,
  ⟨0xB8, .imp, fun _ _ => .clv⟩,
  ⟨0xB9, .aby, fun b1 b2 => .ldaAby b1 b2⟩,
  ⟨0xBA, .imp, fun _ _ => .tsx⟩,
  ⟨0xBC, .abx, fun b1 b2 => .ldyAbx b1 b2⟩,
  ⟨0xBD, .abx, fun b1 b2 => .ldaAbx b1 b2⟩,
  ⟨0xBE, .aby, fun b1 b2 => .ldxAby b1 b2⟩]

/-- Row Cx of the table by byte value (R85). -/
def rowsC : List Row := [
  ⟨0xC0, .imm, fun b1 _ => .cpyImm b1⟩,
  ⟨0xC1, .ixi, fun b1 _ => .cmpIxi b1⟩,
  ⟨0xC4, .zer, fun b1 _ => .cpyZer b1⟩,
  ⟨0xC5, .zer, fun b1 _ => .cmpZer b1⟩,
  ⟨0xC6, .zer, fun b1 _ => .decZer b1⟩,
  ⟨0xC8, .imp, fun _ _ => .iny⟩,
  ⟨0xC9, .imm, fun b1 _ => .cmpImm b1⟩,
  ⟨0xCA, .imp, fun _ _ => .dex⟩,
  ⟨0xCC, .abs, fun b1 b2 => .cpyAbs b1 b2⟩,
  ⟨0xCD, .abs, fun b1 b2 => .cmpAbs b1 b2⟩,
  ⟨0xCE, .abs, fun b1 b2 => .decAbs b1 b2⟩]

/-- Row Dx of the table by byte value (R85). -/
def rowsD : List Row := [
  ⟨0xD0, .rel, fun b1 _ => .bne b1⟩,
  ⟨0xD1, .iix, fun b1 _ => .cmpIix b1⟩,
  ⟨0xD5, .zex, fun b1 _ => .cmpZex b1⟩,
  ⟨0xD6, .zex, fun b1 _ => .decZex b1⟩,
  ⟨0xD8, .imp, fun _ _ => .cld⟩,
  ⟨0xD9, .aby, fun b1 b2 => .cmpAby b1 b2⟩,
  ⟨0xDD, .abx, fun b1 b2 => .cmpAbx b1 b2⟩,
  ⟨0xDE, .abx, fun b1 b2 => .decAbx b1 b2⟩]

/-- Row Ex of the table by byte value (R85). -/
def rowsE : List Row := [
  ⟨0xE0, .imm, fun b1 _ => .cpxImm b1⟩,
  ⟨0xE1, .ixi, fun b1 _ => .sbcIxi b1⟩,
  ⟨0xE4, .zer, fun b1 _ => .cpxZer b1⟩,
  ⟨0xE5, .zer, fun b1 _ => .sbcZer b1⟩,
  ⟨0xE6, .zer, fun b1 _ => .incZer b1⟩,
  ⟨0xE8, .imp, fun _ _ => .inx⟩,
  ⟨0xE9, .imm, fun b1 _ => .sbcImm b1⟩,
  ⟨0xEA, .imp, fun _ _ => .nop⟩,
  ⟨0xEC, .abs, fun b1 b2 => .cpxAbs b1 b2⟩,
  ⟨0xED, .abs, fun b1 b2 => .sbcAbs b1 b2⟩,
  ⟨0xEE, .abs, fun b1 b2 => .incAbs b1 b2⟩]

/-- Row Fx of the table by byte value (R85). -/
def rowsF : List Row := [
  ⟨0xF0, .rel, fun b1 _ => .beq b1⟩,
  ⟨0xF1, .iix, fun b1 _ => .sbcIix b1⟩,
  ⟨0xF5, .zex, fun b1 _ => .sbcZex b1⟩,
  ⟨0xF6, .zex, fun b1 _ => .incZex b1⟩,
  ⟨0xF8, .imp, fun _ _ => .sed⟩,
  ⟨0xF9, .aby, fun b1 b2 => .sbcAby b1 b2⟩,
  ⟨0xFD, .abx, fun b1 b2 => .sbcAbx b1 b2⟩,
  ⟨0xFE, .abx, fun b1 b2 => .incAbx b1 b2⟩]

/-- The rows of the table by byte value, by high nibble (R85). -/
def rowsOf : Nat → List Row
  | 0 => rows0
  | 1 => rows1
  | 2 => rows2
  | 3 => rows3
  | 4 => rows4
  | 5 => rows5
  | 6 => rows6
  | 7 => rows7
  | 8 => rows8
  | 9 => rows9
  | 10 => rowsA
  | 11 => rowsB
  | 12 => rowsC
  | 13 => rowsD
  | 14 => rowsE
  | 15 => rowsF
  | _ => []

/-- The 151 defined opcodes (R85). -/
def rows : List Row := (List.range 16).flatMap rowsOf

/-- `decode` of an opcode byte: its row, looked up by high nibble and then by the whole byte, or none for the 105
undefined bytes (R86, R88). -/
def lookup (opcode : Byte) : Option Row := (rowsOf (opcode.toNat / 16)).find? fun r => r.opcode == opcode

/-- Why bytes are no instruction. -/
inductive DecodeError where
  /-- There is no opcode byte. -/
  | empty
  /-- The opcode byte is one of the 105 undefined ones (R86). -/
  | undefinedOpcode (opcode : Byte)
  /-- The bytes end before the operand bytes the opcode's form needs (R81). -/
  | truncated (opcode : Byte)
  deriving DecidableEq, Repr

/-- Read one instruction from the front of a list of bytes, and give it with the bytes after it (R80 to R83, R88). -/
def decode : List Byte → Except DecodeError (Instr × List Byte)
  | [] => .error .empty
  | opcode :: rest =>
    match lookup opcode with
    | none => .error (.undefinedOpcode opcode)
    | some row =>
      match row.form.length, rest with
      | 1, bs => .ok (row.build 0x00 0x00, bs)
      | 2, b1 :: bs => .ok (row.build b1 0x00, bs)
      | 3, b1 :: b2 :: bs => .ok (row.build b1 b2, bs)
      | _, _ => .error (.truncated opcode)

/-- The opcode byte ("Forms and opcodes" of the instruction rules R121 to R213). -/
def Instr.opcode : Instr → Byte
  | .adcImm _ => 0x69
  | .adcZer _ => 0x65
  | .adcZex _ => 0x75
  | .adcAbs _ _ => 0x6D
  | .adcAbx _ _ => 0x7D
  | .adcAby _ _ => 0x79
  | .adcIxi _ => 0x61
  | .adcIix _ => 0x71
  | .andImm _ => 0x29
  | .andZer _ => 0x25
  | .andZex _ => 0x35
  | .andAbs _ _ => 0x2D
  | .andAbx _ _ => 0x3D
  | .andAby _ _ => 0x39
  | .andIxi _ => 0x21
  | .andIix _ => 0x31
  | .aslAcc => 0x0A
  | .aslZer _ => 0x06
  | .aslZex _ => 0x16
  | .aslAbs _ _ => 0x0E
  | .aslAbx _ _ => 0x1E
  | .bcc _ => 0x90
  | .bcs _ => 0xB0
  | .beq _ => 0xF0
  | .bitZer _ => 0x24
  | .bitAbs _ _ => 0x2C
  | .bmi _ => 0x30
  | .bne _ => 0xD0
  | .bpl _ => 0x10
  | .brk => 0x00
  | .bvc _ => 0x50
  | .bvs _ => 0x70
  | .clc => 0x18
  | .cld => 0xD8
  | .cli => 0x58
  | .clv => 0xB8
  | .cmpImm _ => 0xC9
  | .cmpZer _ => 0xC5
  | .cmpZex _ => 0xD5
  | .cmpAbs _ _ => 0xCD
  | .cmpAbx _ _ => 0xDD
  | .cmpAby _ _ => 0xD9
  | .cmpIxi _ => 0xC1
  | .cmpIix _ => 0xD1
  | .cpxImm _ => 0xE0
  | .cpxZer _ => 0xE4
  | .cpxAbs _ _ => 0xEC
  | .cpyImm _ => 0xC0
  | .cpyZer _ => 0xC4
  | .cpyAbs _ _ => 0xCC
  | .decZer _ => 0xC6
  | .decZex _ => 0xD6
  | .decAbs _ _ => 0xCE
  | .decAbx _ _ => 0xDE
  | .dex => 0xCA
  | .dey => 0x88
  | .eorImm _ => 0x49
  | .eorZer _ => 0x45
  | .eorZex _ => 0x55
  | .eorAbs _ _ => 0x4D
  | .eorAbx _ _ => 0x5D
  | .eorAby _ _ => 0x59
  | .eorIxi _ => 0x41
  | .eorIix _ => 0x51
  | .incZer _ => 0xE6
  | .incZex _ => 0xF6
  | .incAbs _ _ => 0xEE
  | .incAbx _ _ => 0xFE
  | .inx => 0xE8
  | .iny => 0xC8
  | .jmpAbs _ _ => 0x4C
  | .jmpInd _ _ => 0x6C
  | .jsr _ _ => 0x20
  | .ldaImm _ => 0xA9
  | .ldaZer _ => 0xA5
  | .ldaZex _ => 0xB5
  | .ldaAbs _ _ => 0xAD
  | .ldaAbx _ _ => 0xBD
  | .ldaAby _ _ => 0xB9
  | .ldaIxi _ => 0xA1
  | .ldaIix _ => 0xB1
  | .ldxImm _ => 0xA2
  | .ldxZer _ => 0xA6
  | .ldxZey _ => 0xB6
  | .ldxAbs _ _ => 0xAE
  | .ldxAby _ _ => 0xBE
  | .ldyImm _ => 0xA0
  | .ldyZer _ => 0xA4
  | .ldyZex _ => 0xB4
  | .ldyAbs _ _ => 0xAC
  | .ldyAbx _ _ => 0xBC
  | .lsrAcc => 0x4A
  | .lsrZer _ => 0x46
  | .lsrZex _ => 0x56
  | .lsrAbs _ _ => 0x4E
  | .lsrAbx _ _ => 0x5E
  | .nop => 0xEA
  | .oraImm _ => 0x09
  | .oraZer _ => 0x05
  | .oraZex _ => 0x15
  | .oraAbs _ _ => 0x0D
  | .oraAbx _ _ => 0x1D
  | .oraAby _ _ => 0x19
  | .oraIxi _ => 0x01
  | .oraIix _ => 0x11
  | .pha => 0x48
  | .php => 0x08
  | .pla => 0x68
  | .plp => 0x28
  | .rolAcc => 0x2A
  | .rolZer _ => 0x26
  | .rolZex _ => 0x36
  | .rolAbs _ _ => 0x2E
  | .rolAbx _ _ => 0x3E
  | .rorAcc => 0x6A
  | .rorZer _ => 0x66
  | .rorZex _ => 0x76
  | .rorAbs _ _ => 0x6E
  | .rorAbx _ _ => 0x7E
  | .rti => 0x40
  | .rts => 0x60
  | .sbcImm _ => 0xE9
  | .sbcZer _ => 0xE5
  | .sbcZex _ => 0xF5
  | .sbcAbs _ _ => 0xED
  | .sbcAbx _ _ => 0xFD
  | .sbcAby _ _ => 0xF9
  | .sbcIxi _ => 0xE1
  | .sbcIix _ => 0xF1
  | .sec => 0x38
  | .sed => 0xF8
  | .sei => 0x78
  | .staZer _ => 0x85
  | .staZex _ => 0x95
  | .staAbs _ _ => 0x8D
  | .staAbx _ _ => 0x9D
  | .staAby _ _ => 0x99
  | .staIxi _ => 0x81
  | .staIix _ => 0x91
  | .stxZer _ => 0x86
  | .stxZey _ => 0x96
  | .stxAbs _ _ => 0x8E
  | .styZer _ => 0x84
  | .styZex _ => 0x94
  | .styAbs _ _ => 0x8C
  | .tax => 0xAA
  | .tay => 0xA8
  | .tsx => 0xBA
  | .txa => 0x8A
  | .txs => 0x9A
  | .tya => 0x98

/-- The operand bytes of a memory form, `b1` first (R80). -/
def Mem.bytes : Mem → List Byte
  | .zer b1 | .zex b1 | .zey b1 | .ixi b1 | .iix b1 => [b1]
  | .abs b1 b2 | .abx b1 b2 | .aby b1 b2 | .ind b1 b2 => [b1, b2]

/-- The operand bytes (R80). -/
def Operand.bytes : Operand → List Byte
  | .imp | .acc => []
  | .src (.imm b1) => [b1]
  | .src (.mem m) => m.bytes
  | .rel b1 => [b1]

/-- The bytes of an instruction, the opcode first, at consecutive addresses (R80). -/
def encode (i : Instr) : List Byte := i.opcode :: i.operand.bytes

/-- The longest instruction, in bytes (R80). -/
def maxLength : Nat := 3

/-- The bytes of an instruction given as a number: the first byte lowest, `nbits` bits of it, then zeros to the longest
instruction. -/
def tableBytes (nbits w : Nat) : List Byte :=
  (List.range maxLength).map fun k => BitVec.ofNat 8 (w % 2 ^ nbits / 2 ^ (8 * k))

/-- The instruction the decoder reads from an instruction whose bits are `w`, bit 0 the least significant bit of the
opcode byte, the next byte's bits counting on from it. -/
def decodeTableWord (nbits w : Nat) : Option Instr :=
  match decode (tableBytes nbits w) with
  | .ok (i, _) => some i
  | .error _ => none

end Sys2Proof
end

