-- ==== Sys2Proof/Machine/Fetch.lean ====
section
/-!
DEFINITION. Fetching and decoding an instruction at `pc`, byte by byte (spec/46_controller.md R231 to R233).
-/

namespace Sys2Proof.Machine

/-- `n` bytes read by `Fetch8`, in address order, and the state after them (R34). -/
def fetchBytes : Nat → State → List Byte × State
  | 0, s => ([], s)
  | n + 1, s =>
    let b := fetch8 s
    let r := fetchBytes n b.2
    (b.1 :: r.1, r.2)

/-- The opcode byte, its row, then the operand bytes its form needs, `b1` before `b2`; an undefined opcode raises
InvalidOpcode with no operand byte fetched (R231, R232, R233). -/
def fetchInstr (s : State) : Except State (Instr × State) :=
  let op := fetch8 s
  match lookup op.1 with
  | none => .error (raise (.invalidOpcode op.1 s.pc) op.2)
  | some row =>
    match row.form.length with
    | 1 => .ok (row.build 0x00 0x00, op.2)
    | 2 =>
      let b1 := fetch8 op.2
      .ok (row.build b1.1 0x00, b1.2)
    | _ =>
      let b1 := fetch8 op.2
      let b2 := fetch8 b1.2
      .ok (row.build b1.1 b2.1, b2.2)

end Sys2Proof.Machine
end

