-- ==== Sys2Proof/Machine/Timing.lean ====
section
/-!
DEFINITION. Cycle bookkeeping: the base costs and the end of an instruction (spec/70_reset_and_hazards.md R303, R304,
46_controller.md R230, R238). Timing only: no architectural result depends on it. The numbers are the spec's
non-normative table (log entry 11).
-/

namespace Sys2Proof.Machine

/-- Base cycles of the read instructions, without the crossing penalty (R303). IND is no operand form of theirs. -/
def readCycles : Form → Nat
  | .imm => 2
  | .zer => 3
  | .zex | .zey | .abs | .abx | .aby => 4
  | .ixi => 6
  | .iix => 5
  | .imp | .acc | .ind | .rel => 0

/-- Base cycles of the stores (R303). -/
def storeCycles : Form → Nat
  | .zer => 3
  | .zex | .zey | .abs => 4
  | .abx | .aby => 5
  | .ixi | .iix => 6
  | .imp | .acc | .imm | .ind | .rel => 0

/-- Base cycles of the read-modify-write instructions (R303). -/
def rmwCycles : Form → Nat
  | .acc => 2
  | .zer => 5
  | .zex | .zey | .abs => 6
  | .abx | .aby => 7
  | .imp | .imm | .ixi | .iix | .ind | .rel => 0

/-- `base_cycles(opcode)` (R303). -/
def baseCycles (i : Instr) : Nat :=
  match i.op with
  | .lda | .ldx | .ldy | .adc | .sbc | .and | .eor | .ora | .cmp | .cpx | .cpy | .bit => readCycles i.form
  | .sta | .stx | .sty => storeCycles i.form
  | .asl | .lsr | .rol | .ror | .inc | .dec => rmwCycles i.form
  | .tax | .tay | .txa | .tya | .tsx | .txs | .inx | .iny | .dex | .dey => 2
  | .sec | .clc | .sei | .cli | .sed | .cld | .clv | .nop => 2
  | .pha | .php => 3
  | .pla | .plp => 4
  | .jmp => if i.form = .ind then 5 else 3
  | .jsr | .rts | .rti => 6
  | .brk => 7
  | .bcc | .bcs | .beq | .bne | .bmi | .bpl | .bvc | .bvs => 2

/-- The last line of `Step`: the penalty is folded into `cycles_left` and cleared (R230). A transition that raised has
ended before it (R254). -/
def retire (i : Instr) (s : State) : State :=
  match s.ctl with
  | .run => { s with cyclesLeft := baseCycles i + s.penalty, penalty := 0 }
  | _ => s

/-- The count-down of `clock()` (R238). -/
def tick (s : State) : State := { s with cyclesLeft := s.cyclesLeft - 1 }

end Sys2Proof.Machine
end

