-- ==== Sys2Proof/Machine/Transition.lean ====
section
/-!
DEFINITION. The transitions the environment can cause (spec/46_controller.md R230, R236, R238, R240): `Step`, `clock()`,
`Rst`, `Nmi`, `Irq`, and which one the schedule takes next.
-/

namespace Sys2Proof.Machine

/-- The dispatch and the last line of `Step` for an instruction whose bytes are fetched (R230, R234). -/
def runInstr (i : Instr) (s : State) : Result :=
  match exec i s with
  | .next t => .next (retire i t)
  | .fault f => .fault f
  | .refused r => .refused r

/-- `Step`: fetch, decode, fetch the operands, execute; enabled in Run only (R230, R236). -/
def stepInstr (s : State) : Result :=
  match s.ctl with
  | .run =>
    match fetchInstr s with
    | .error h => .next h
    | .ok p => runInstr p.1 p.2
  | c => .fault (.notEnabled .step c)

/-- `clock()`: in Run with nothing outstanding a whole `Step`, then the count-down (R238). -/
def clock (s : State) : Result :=
  if s.ctl = .run ∧ s.cyclesLeft = 0 then
    match stepInstr s with
    | .next t => .next (tick t)
    | .fault f => .fault f
    | .refused r => .refused r
  else .next (tick s)

/-- One call of an entry point: `Nmi` and `Irq` are enabled in Run only, `Rst` always (R236, R262, R263, R266). -/
def transition (e : Entry) (s : State) : Result :=
  match e with
  | .step => stepInstr s
  | .clock => clock s
  | .rst => .next (rst s)
  | .nmi =>
    match s.ctl with
    | .run => nmi s
    | c => .fault (.notEnabled .nmi c)
  | .irq =>
    match s.ctl with
    | .run => irq s
    | c => .fault (.notEnabled .irq c)

/-- The entry point called next: the schedule's first; with none scheduled, the pending reset at power-up (R290) and
`step()` otherwise (log entries 6 and 16). -/
def nextEntry (s : State) : Entry :=
  match s.schedule with
  | e :: _ => e
  | [] =>
    match s.ctl with
    | .interruptServicing => .rst
    | _ => .step

/-- The call is taken off the schedule and put into the trace (R73; log entry 5). -/
def beginTransition (s : State) : State :=
  { s with schedule := s.schedule.tail, events := s.events ++ [.call (nextEntry s)] }

end Sys2Proof.Machine
end

