-- ==== Sys2Proof/Machine/Loader.lean ====
section
/-!
DEFINITION. Putting an instruction where the next `Step` fetches it (log entry 8): the storage behind an address is written
directly, as loading a cartridge does; no transition of the machine does this.
-/

namespace Sys2Proof.Machine

/-- Put a byte into the storage behind an address: RAM or the cartridge; elsewhere there is none. -/
def poke (a : Word) (v : Byte) (s : State) : State :=
  match route a with
  | .ram i => { s with ram := s.ram.write i v }
  | .cart k => { s with rom := s.rom.write k v }
  | .periph _ | .unmappedIo | .unmapped => s

/-- The address has storage behind it. -/
def storable (a : Word) : Bool :=
  match route a with
  | .ram _ | .cart _ => true
  | .periph _ | .unmappedIo | .unmapped => false

/-- Bytes at consecutive addresses. -/
def pokeBytes : Word → List Byte → State → State
  | _, [], s => s
  | a, b :: bs, s => pokeBytes (a + 1) bs (poke a b s)

/-- Make the next transition a `Step` that fetches from storage: Run with no fault, `step()` next, and `pc` moved to 0x0200
where the longest instruction at `pc` would not lie in storage. Nothing changes where all this holds already. -/
def readyToFetch (s : State) : State :=
  let s1 := if s.ctl = .run then s else { s with ctl := .run, fault := none }
  let s2 := if nextEntry s1 = .step then s1 else { s1 with schedule := .step :: s1.schedule }
  if storable s2.pc && storable (s2.pc + 1) && storable (s2.pc + 2) then s2 else s2.setPc 0x0200

/-- The bytes placed where the next `Step` fetches. -/
def placeInstr (bs : List Byte) (s : State) : State :=
  let t := readyToFetch s
  pokeBytes t.pc bs t

end Sys2Proof.Machine
end

