-- ==== Sys2Proof/Machine/Step.lean ====
section
/-!
DEFINITION. One step of the machine: the transition the schedule calls next (spec/00_scope.md R5, 46_controller.md R240).
-/

namespace Sys2Proof.Machine

/-- One transition of the machine. With nothing scheduled it is `Step`, one whole instruction (R230). -/
def step (s : State) : Host.Outcome State Fault Refusal := transition (nextEntry s) (beginTransition s)

/-- `s` with the instruction whose bits are `w` (numbered as the opcode table numbers them, zeros above `nbits`) stored
where `step` fetches its next instruction. -/
def State.withFetchWord (s : State) (nbits w : Nat) : State := placeInstr (tableBytes nbits w) s

end Sys2Proof.Machine
end

