-- ==== Sys2Proof/Safety.lean ====
section
/-!
DEFINITION. What claims are stated in: the invariant of the state, what a run may rely on, and what a transition keeps.
-/

namespace Sys2Proof.Machine

/-! ### The invariant -/

/-- RAM is in canonical form over its 2048 bytes (R35). -/
def State.ramWf (s : State) : Bool := Memory.wf 0 Config.ramSize s.ram

/-- The cartridge is in canonical form over 0x8000 to 0xFFFF (R56). -/
def State.romWf (s : State) : Bool := Memory.wf 0x8000 0x10000 s.rom

/-- The record is one the rules can make: SP as the guard found it, a first, second or third stack access, an opcode byte
that is undefined (R251, R252, R253). -/
def FaultInfo.legal : FaultInfo → Bool
  | .stackOverflow sp _ nth => sp == 0x00 && decide (1 ≤ nth) && decide (nth ≤ 3)
  | .stackUnderflow sp _ nth => sp == 0xFF && decide (1 ≤ nth) && decide (nth ≤ 3)
  | .invalidOpcode opcode _ => (lookup opcode).isNone

/-- A peripheral event names one of the eight registers 0x2000 to 0x2007 (R54). -/
def inWindow : Event → Bool
  | .pr addr _ => decide (0x2000 ≤ addr.toNat) && decide (addr.toNat ≤ 0x2007)
  | .pw addr _ => decide (0x2000 ≤ addr.toNat) && decide (addr.toNat ≤ 0x2007)
  | .call _ => true

/-- The invariant between transitions: storage in canonical form, a fault recorded exactly in Halted (R36, R254) and a
legal one, no penalty cycle outstanding (R230), peripheral events in the window (R54). -/
abbrev State.Inv (s : State) : Prop :=
  s.ramWf = true ∧ s.romWf = true ∧ (s.ctl = .halted ↔ s.fault.isSome = true) ∧ s.fault.all FaultInfo.legal = true ∧
    s.penalty = 0 ∧ s.events.all inWindow = true

/-- A run is safe as long as no fault has halted the core (R236, R237: a faulted run is a failed one). -/
abbrev State.Safe (s : State) : Prop := s.ctl ≠ .halted

/-! ### What a transition keeps -/

/-- The byte a read of `a` returns where storage decides it; none in the peripheral window, where the environment does
(R51, R54). -/
def storedByte (a : Word) (s : State) : Option Byte :=
  match route a with
  | .periph _ => none
  | _ => some (memPeek a s)

/-- No byte of memory has changed: neither RAM nor cartridge, read at any address. -/
def SameMemory (s t : State) : Prop :=
  t.ram = s.ram ∧ t.rom = s.rom ∧ ∀ a, storedByte a t = storedByte a s

/-- Every register slot but ST and those listed is unchanged, PCL and PCH among them. -/
def RegsKept (changed : List Reg) (s t : State) : Prop :=
  ∀ r, r ≠ .st → r ∉ changed → readReg r t = readReg r s

/-- Every bit of ST but the flags listed is unchanged. -/
def FlagsKept (changed : List Flag) (s t : State) : Prop := ∀ f, f ∉ changed → t.flag f = s.flag f

/-- The controller is unchanged: its state, the fault record, the outstanding cycles, the cartridge and the schedule. -/
def SameControl (s t : State) : Prop :=
  t.ctl = s.ctl ∧ t.fault = s.fault ∧ t.cyclesLeft = s.cyclesLeft ∧ t.rom = s.rom ∧ t.schedule = s.schedule

/-- Everything outside memory, the event history and the penalty counter but the listed registers and flags is
unchanged. -/
def Kept (regs : List Reg) (flags : List Flag) (s t : State) : Prop :=
  RegsKept regs s t ∧ FlagsKept flags s t ∧ SameControl s t

/-- What one write of `v` at `a` does to memory and to the trace (R52): RAM takes the byte, the peripheral is told of it,
the cartridge and the unmapped ranges discard it; every address that names another cell reads as before. -/
def Wrote (a : Word) (v : Byte) (s t : State) : Prop :=
  (∀ b, route b ≠ route a → storedByte b t = storedByte b s) ∧
  match route a with
  | .ram _ => storedByte a t = some v ∧ t.events = s.events
  | .periph reg => SameMemory s t ∧ t.events = s.events ++ [.pw reg v]
  | .unmappedIo | .unmapped | .cart _ => SameMemory s t ∧ t.events = s.events

/-- N and Z as `SetNZ(v)` leaves them (R25). -/
def NZof (v : Byte) (t : State) : Prop := t.flag .n = v.getLsbD 7 ∧ t.flag .z = (v == 0x00)

/-- The stack slots written so far: slot `sp` holds the first byte, the slot below it the next, and so on; no other
address of memory has changed (R32, R140). -/
def StackHolds (bytes : List Byte) (s t : State) : Prop :=
  (∀ k, (h : k < bytes.length) → t.ram.read (256 + s.sp.toNat - k) = bytes[k]) ∧
  ∀ a, (∀ k, k < bytes.length → route a ≠ .ram (256 + s.sp.toNat - k)) → storedByte a t = storedByte a s

/-- The forms a mnemonic has, each with its opcode byte, in the order of the bytes (R85). -/
def formTable (m : Mnemonic) : List (Form × Byte) :=
  (rows.filter fun r => (r.build 0x00 0x00).op == m).map fun r => (r.form, r.opcode)

/-- The 105 undefined bytes as R86 lists them. -/
def undefinedBytes : List Byte :=
  [0x02, 0x03, 0x04, 0x07, 0x0B, 0x0C, 0x0F, 0x12, 0x13, 0x14, 0x17, 0x1A, 0x1B, 0x1C, 0x1F] ++
  [0x22, 0x23, 0x27, 0x2B, 0x2F, 0x32, 0x33, 0x34, 0x37, 0x3A, 0x3B, 0x3C, 0x3F] ++
  [0x42, 0x43, 0x44, 0x47, 0x4B, 0x4F, 0x52, 0x53, 0x54, 0x57, 0x5A, 0x5B, 0x5C, 0x5F] ++
  [0x62, 0x63, 0x64, 0x67, 0x6B, 0x6F, 0x72, 0x73, 0x74, 0x77, 0x7A, 0x7B, 0x7C, 0x7F] ++
  [0x80, 0x82, 0x83, 0x87, 0x89, 0x8B, 0x8F, 0x92, 0x93, 0x97, 0x9B, 0x9C, 0x9E, 0x9F] ++
  [0xA3, 0xA7, 0xAB, 0xAF, 0xB2, 0xB3, 0xB7, 0xBB, 0xBF, 0xC2, 0xC3, 0xC7, 0xCB, 0xCF] ++
  [0xD2, 0xD3, 0xD4, 0xD7, 0xDA, 0xDB, 0xDC, 0xDF, 0xE2, 0xE3, 0xE7, 0xEB, 0xEF] ++
  [0xF2, 0xF3, 0xF4, 0xF7, 0xFA, 0xFB, 0xFC, 0xFF]

/-- Pushes of several bytes, the first byte first. -/
def pushAll (opcAddr : Word) (nth : Nat) : List Byte → State → Except State State
  | [], s => .ok s
  | v :: vs, s => (push opcAddr nth v s).bind fun t => pushAll opcAddr nth vs t

/-- `n` pops, with the bytes in the order they came. -/
def popAll (opcAddr : Word) (nth : Nat) : Nat → State → Except State (List Byte × State)
  | 0, s => .ok ([], s)
  | n + 1, s =>
    (pop opcAddr nth s).bind fun p =>
    (popAll opcAddr nth n p.2).bind fun q => .ok (p.1 :: q.1, q.2)

end Sys2Proof.Machine
end

