-- ==== Sys2Proof/Certificates/Slice0/Obligations.lean ====
section
/-!
DEFINITION. The statements for the provers. Each one's docstring names the rules of spec/ it formalises.
-/

open Sys2Proof Sys2Proof.Machine

/-! ### Vocabulary of the statements -/

/-- All eight flags of ST. -/
def Sys2Proof.Machine.allFlags : List Flag := [.n, .v, .u, .b, .d, .i, .z, .c]

/-- The operations of R171 to R174 as arithmetic on the old byte and the old carry: the new byte and the new carry. -/
def Sys2Proof.Machine.shiftRule (m : Mnemonic) (v c : Nat) : Option (Nat × Bool) :=
  match m with
  | .asl => some (2 * v % 256, decide (128 ≤ v))
  | .lsr => some (v / 2, decide (v % 2 = 1))
  | .rol => some ((2 * v + c) % 256, decide (128 ≤ v))
  | .ror => some (v / 2 + 128 * c, decide (v % 2 = 1))
  | _ => none

/-- The results of R154 to R156. -/
def Sys2Proof.Machine.logicRule (m : Mnemonic) (a v : Byte) : Option Byte :=
  match m with
  | .and => some (a &&& v)
  | .eor => some (a ^^^ v)
  | .ora => some (a ||| v)
  | _ => none

/-- The read instructions, which the page-crossing penalty concerns (R303, R304). -/
def Sys2Proof.Machine.readOps : List Mnemonic :=
  [.lda, .ldx, .ldy, .adc, .sbc, .and, .eor, .ora, .cmp, .cpx, .cpy, .bit]

/-- The eight branches with the flag each tests and the value on which it is taken (R201 to R208). -/
def Sys2Proof.Machine.branchOps : List (Mnemonic × Flag × Bool) :=
  [(.bcc, .c, false), (.bcs, .c, true), (.beq, .z, true), (.bne, .z, false), (.bmi, .n, true), (.bpl, .n, false),
   (.bvc, .v, false), (.bvs, .v, true)]

/-- A memory form's index addition leaves the page of its unindexed base, said with the low bytes (R115). -/
def Sys2Proof.Machine.leavesPage (m : Mem) (s : State) : Prop :=
  match m with
  | .abx b1 _ => 256 ≤ b1.toNat + s.x.toNat
  | .aby b1 _ => 256 ≤ b1.toNat + s.y.toNat
  | .iix b1 => 256 ≤ (s.ram.read b1.toNat).toNat + s.y.toNat
  | _ => False

/-- An interrupt entry found no room for all its three bytes: those that fit stay pushed, SP is 0x00, I and all other
registers are as before but `pc`, which is `pc'`, and the core halts with the fault of the first push that failed. -/
def Sys2Proof.Machine.EntryFaulted (opcAddr pc' : Word) (bytes : List Byte) (s t : State) : Prop :=
  StackHolds (bytes.take s.sp.toNat) s t ∧ t.sp = 0x00 ∧ t.pc = pc' ∧ t.st = s.st ∧ t.a = s.a ∧ t.x = s.x ∧ t.y = s.y ∧
    t.ctl = .halted ∧ t.fault = some (.stackOverflow 0x00 opcAddr (s.sp.toNat + 1)) ∧ t.events = s.events ∧
    t.rom = s.rom ∧ t.penalty = s.penalty ∧ t.cyclesLeft = s.cyclesLeft ∧ t.schedule = s.schedule

/-- Sample encodings of R85 with operand bytes in the order of R83. -/
def Obligations.SampleWordsDecode : Prop :=
  decode [0xA9, 0x80] = .ok (.ldaImm 0x80, []) ∧
  decode [0xAD, 0x34, 0x12] = .ok (.ldaAbs 0x34 0x12, []) ∧
  decode [0x91, 0x10, 0xEA] = .ok (.staIix 0x10, [0xEA]) ∧
  decode [0x48] = .ok (.pha, []) ∧
  decode [0x69, 0x50] = .ok (.adcImm 0x50, []) ∧
  decode [0x6A, 0xFF] = .ok (.rorAcc, [0xFF]) ∧
  decode [0xD0, 0xFB] = .ok (.bne 0xFB, []) ∧
  decode [0x6C, 0x20, 0x01] = .ok (.jmpInd 0x20 0x01, [])

/-- R85, R87: every opcode takes every operand byte, and no bit of an encoding is dropped. -/
def Obligations.DecodeInvertsEncode : Prop :=
  ∀ (i : Instr) (rest : List Byte), i.wellFormed = true → decode (encode i ++ rest) = .ok (i, rest)

/-- R90: each mnemonic with each operand form is exactly one opcode. -/
def Obligations.EncodeInvertsDecode : Prop :=
  ∀ (bs : List Byte) (i : Instr) (rest : List Byte), decode bs = .ok (i, rest) →
    bs = encode i ++ rest ∧ i.wellFormed = true

/-- R86: the other 105 byte values spell no instruction. -/
def Obligations.UndefinedBytesHaveNoInstruction : Prop :=
  undefinedBytes.length = 105 ∧ ∀ b : Byte, lookup b = none ↔ b ∈ undefinedBytes

/-- R230, the composition of the phases of `Step`. The model's choices: the trace entry (log entry 5), and the
schedule from which `nextEntry` takes the call (log entry 6). Rests on the spec's decisions D29 and D34. -/
def Obligations.StepRunsDecodedInstruction : Prop :=
  ∀ (i : Instr) (s t : State), s.ctl = .run → nextEntry s = .step → i.wellFormed = true →
    let u := fetchBytes i.length (beginTransition s)
    decode u.1 = .ok (i, []) → exec i u.2 = .next t →
    u.2.pc = s.pc + BitVec.ofNat 16 i.length ∧
    (t.ctl = .run → step s = .next { t with cyclesLeft := baseCycles i + t.penalty, penalty := 0 }) ∧
    (t.ctl ≠ .run → step s = .next t)

/-- R253: the fault, its information, and that nothing else of the core has changed. The model's choices: the trace
entry of the call (log entry 5) and the schedule it is taken from (log entry 6). The model's choice: a raised
fault is a next state, the halted one of R254 (log entry 1). Rests on the spec's decision D5. -/
def Obligations.UndefinedOpcodeHalts : Prop :=
  ∀ s : State, s.ctl = .run → nextEntry s = .step →
    let u := beginTransition s
    memPeek s.pc u ∈ undefinedBytes →
    step s = .next { memTouch s.pc u with pc := s.pc + 1, ctl := .halted,
                                          fault := some (.invalidOpcode (memPeek s.pc u) s.pc) }

/-- R41, R290. The ROM of State.reset is the model's choice (log entry 3). -/
def Obligations.InvariantHoldsAtReset : Prop :=
  State.reset.Inv

/-- The invariant between transitions, from every state and for every entry point the schedule calls. -/
def Obligations.StepKeepsInvariant : Prop :=
  ∀ s t : State, s.Inv → step s = .next t → t.Inv

/-- R52: writes to cartridge storage do nothing; R56: CartRead does not change during a run. -/
def Obligations.CartridgeIsNeverWritten : Prop :=
  ∀ s t : State, step s = .next t → t.rom = s.rom ∧
    ∀ a : Word, 0x8000 ≤ a.toNat → memPeek a t = memPeek a s

/-- R290: the state in which the first instruction is fetched. Rests on the spec's decision D9. The model's choices:
the stop `notEnabled` (log entry 2), the empty history and schedule (5, 6), the all-zero cartridge of
State.reset (3, 7). Deduced: `Rst` as the next transition (16). -/
def Obligations.PowerUpTakesReset : Prop :=
  (∀ rom : Memory,
      nextEntry (State.constructed rom) = .rst ∧
      transition .step (State.constructed rom) = .fault (.notEnabled .step .interruptServicing) ∧
      transition .nmi (State.constructed rom) = .fault (.notEnabled .nmi .interruptServicing) ∧
      transition .irq (State.constructed rom) = .fault (.notEnabled .irq .interruptServicing) ∧
      transition .rst (State.constructed rom) = .next
        { a := 0x00, x := 0x00, y := 0x00, st := 0x00, sp := 0xFF, pc := mkWord (rom.read 0xFFFD) (rom.read 0xFFFC),
          ram := [], rom := rom, ctl := .run, fault := none, cyclesLeft := 0, penalty := 0, events := [],
          schedule := [] }) ∧
  transition .rst (State.constructed []) = .next State.reset

/-- R266, R291. Rests on the spec's decisions D9 and D10. -/
def Obligations.RstReinitialises : Prop :=
  ∀ s : State, ∃ t, transition .rst s = .next t ∧
    t.a = 0x00 ∧ t.x = 0x00 ∧ t.y = 0x00 ∧ t.st = Config.resetSt ∧ t.sp = 0xFF ∧ t.fault = none ∧ t.cyclesLeft = 0 ∧ t.penalty = 0 ∧
    t.pc = mkWord (s.rom.read 0xFFFD) (s.rom.read 0xFFFC) ∧ t.ctl = .run ∧ SameMemory s t ∧ t.events = s.events ∧
    t.schedule = s.schedule

/-- R262 with the entry sequence of R261. Rests on the spec's decisions D7 and D19. -/
def Obligations.NmiEntersHandler : Prop :=
  ∀ s : State, s.ramWf = true → s.ctl = .run → 3 ≤ s.sp.toNat →
    ∃ t, transition .nmi s = .next t ∧
      StackHolds [hiByte s.pc, loByte s.pc, (s.st ||| 0x20) &&& 0xEF] s t ∧ t.sp = s.sp - 3 ∧
      t.pc = mkWord (s.rom.read 0xFFFB) (s.rom.read 0xFFFA) ∧ t.flag .i = true ∧
      Kept [.sp, .pcl, .pch] [.i] s t ∧ t.events = s.events ∧ t.penalty = s.penalty

/-- R263 with the entry sequence of R261. Rests on the spec's decisions D7, D19 and D23. -/
def Obligations.IrqEntersHandlerUnlessMasked : Prop :=
  ∀ s : State, s.ctl = .run →
    (s.flag .i = true → transition .irq s = .next s) ∧
    (s.ramWf = true → s.flag .i = false → 3 ≤ s.sp.toNat →
      ∃ t, transition .irq s = .next t ∧
        StackHolds [hiByte s.pc, loByte s.pc, (s.st ||| 0x20) &&& 0xEF] s t ∧ t.sp = s.sp - 3 ∧
        t.pc = mkWord (s.rom.read 0xFFFF) (s.rom.read 0xFFFE) ∧ t.flag .i = true ∧
        Kept [.sp, .pcl, .pch] [.i] s t ∧ t.events = s.events ∧ t.penalty = s.penalty)

/-- R212. `s.pc` is the address after the one fetched byte, so the opcode's address plus 2 is `s.pc + 1`. The last
clause is its fault. The model's choice: a raised fault is a next state, the halted one of R254 (log entry 1).
Deduced: the address it records is `pc` less the length (R233, log entry 12). Rests on the spec's decisions D7
and D18. -/
def Obligations.BrkEntersHandler : Prop :=
  formTable .brk = [(.imp, 0x00)] ∧
  ∀ s : State, s.ramWf = true →
    (3 ≤ s.sp.toNat → ∃ t, exec .brk s = .next t ∧
      StackHolds [hiByte (s.pc + 1), loByte (s.pc + 1), s.st ||| 0x30] s t ∧ t.sp = s.sp - 3 ∧
      t.pc = mkWord (s.rom.read 0xFFFF) (s.rom.read 0xFFFE) ∧ t.flag .i = true ∧
      Kept [.sp, .pcl, .pch] [.i] s t ∧ t.events = s.events ∧ t.penalty = s.penalty) ∧
    (s.sp.toNat ≤ 2 → ∃ t, exec .brk s = .next t ∧
      EntryFaulted (s.pc - 1) (s.pc + 1) [hiByte (s.pc + 1), loByte (s.pc + 1), s.st ||| 0x30] s t)

/-- R273. The model's choice: a raised fault is a next state, the halted one of R254 (log entry 1). Deduced: the
address it records is `pc` less the length (R233, log entry 12). Rests on the spec's decision D35. -/
def Obligations.InterruptEntryFaultKeepsPushes : Prop :=
  ∀ s : State, s.ramWf = true → s.sp.toNat ≤ 2 →
    (s.ctl = .run → ∃ t, transition .nmi s = .next t ∧
      EntryFaulted s.pc s.pc [hiByte s.pc, loByte s.pc, (s.st ||| 0x20) &&& 0xEF] s t) ∧
    (s.ctl = .run → s.flag .i = false → ∃ t, transition .irq s = .next t ∧
      EntryFaulted s.pc s.pc [hiByte s.pc, loByte s.pc, (s.st ||| 0x20) &&& 0xEF] s t) ∧
    (∃ t, exec .brk s = .next t ∧
      EntryFaulted (s.pc - 1) (s.pc + 1) [hiByte (s.pc + 1), loByte (s.pc + 1), s.st ||| 0x30] s t)

/-- R213. The model's choice: a raised fault is a next state, the halted one of R254 (log entry 1). Deduced: the
address it records is `pc` less the length (R233, log entry 12). Rests on the spec's decision D33. -/
def Obligations.RtiRestoresStatusAndPc : Prop :=
  formTable .rti = [(.imp, 0x40)] ∧
  ∀ s : State,
    (s.sp.toNat ≤ 0xFC → ∃ t, exec .rti s = .next t ∧
      t.st = s.ram.read (256 + s.sp.toNat + 1) ∧
      t.pc = mkWord (s.ram.read (256 + s.sp.toNat + 3)) (s.ram.read (256 + s.sp.toNat + 2)) ∧ t.sp = s.sp + 3 ∧
      Kept [.sp, .pcl, .pch] allFlags s t ∧ SameMemory s t ∧ t.events = s.events ∧ t.penalty = s.penalty) ∧
    (s.sp.toNat = 0xFD → exec .rti s = .next { s with
      st := s.ram.read 0x1FE, sp := 0xFF, ctl := .halted, fault := some (.stackUnderflow 0xFF (s.pc - 1) 3) }) ∧
    (s.sp.toNat = 0xFE → exec .rti s = .next { s with
      st := s.ram.read 0x1FF, sp := 0xFF, ctl := .halted, fault := some (.stackUnderflow 0xFF (s.pc - 1) 2) }) ∧
    (s.sp.toNat = 0xFF → exec .rti s = .next { s with
      ctl := .halted, fault := some (.stackUnderflow 0xFF (s.pc - 1) 1) })

/-- R271. Rests on the spec's decisions D7 and D33. -/
def Obligations.InterruptThenRtiResumes : Prop :=
  ∀ s t : State, s.ramWf = true → s.ctl = .run → 3 ≤ s.sp.toNat →
    (transition .nmi s = .next t ∨ (s.flag .i = false ∧ transition .irq s = .next t) → ∃ u, exec .rti t = .next u ∧
      u.pc = s.pc ∧ u.flag .u = true ∧ u.flag .b = false ∧ FlagsKept [.u, .b] s u ∧ RegsKept [] s u ∧ u.ctl = .run) ∧
    (exec .brk s = .next t → ∃ u, exec .rti t = .next u ∧
      u.pc = s.pc + 1 ∧ u.flag .u = true ∧ u.flag .b = true ∧ FlagsKept [.u, .b] s u ∧ RegsKept [.pcl, .pch] s u ∧
      u.ctl = .run)

/-- R236. The model's choice: a call in Halted that is not enabled stops with the fault `notEnabled` (log entry 2).
The model's choice: a raised fault is a next state, the halted one of R254 (log entry 1). Rests on the spec's
decision D22. -/
def Obligations.HaltedEnablesOnlyRst : Prop :=
  (∀ s : State, s.ctl = .halted →
      transition .step s = .fault (.notEnabled .step .halted) ∧ transition .nmi s = .fault (.notEnabled .nmi .halted) ∧
      transition .irq s = .fault (.notEnabled .irq .halted) ∧ ∃ t, transition .rst s = .next t ∧ t.ctl = .run) ∧
  (∀ (i : Instr) (s t : State), s.ctl = .run → exec i s = .next t →
      (t.ctl = .run ∧ t.fault = s.fault) ∨ (t.ctl = .halted ∧ t.fault.isSome = true))

/-- R140. `.error` carries the state a raise leaves (R254). -/
def Obligations.PushWritesThenDecrements : Prop :=
  ∀ (opc : Word) (n : Nat) (v : Byte) (s : State),
    (s.ramWf = true → s.sp ≠ 0x00 → ∃ t, push opc n v s = .ok t ∧ StackHolds [v] s t ∧ t.sp = s.sp - 1 ∧
      Kept [.sp] [] s t ∧ t.events = s.events ∧ t.penalty = s.penalty) ∧
    (s.sp = 0x00 → push opc n v s =
      .error { s with ctl := .halted, fault := some (.stackOverflow 0x00 opc n) })

/-- R141. `.error` carries the state a raise leaves (R254). Rests on the spec's decision D21. -/
def Obligations.PopIncrementsThenReads : Prop :=
  ∀ (opc : Word) (n : Nat) (s : State),
    (s.sp ≠ 0xFF → pop opc n s = .ok (s.ram.read (256 + s.sp.toNat + 1), { s with sp := s.sp + 1 })) ∧
    (s.sp = 0xFF → pop opc n s =
      .error { s with ctl := .halted, fault := some (.stackUnderflow 0xFF opc n) })

/-- R146 (a) and (b). Rests on the spec's decision D21. -/
def Obligations.PushesThenPopsRestore : Prop :=
  ∀ (opc opc' : Word) (n n' : Nat) (vs : List Byte) (s : State), s.ramWf = true → vs.length ≤ s.sp.toNat →
    ∃ t u, pushAll opc n vs s = .ok t ∧ t.sp = s.sp - BitVec.ofNat 8 vs.length ∧ Kept [.sp] [] s t ∧
      popAll opc' n' vs.length t = .ok (vs.reverse, u) ∧ u.sp = s.sp ∧ Kept [] [] s u

/-- R146 (c), R297. `.error` carries the state a raise leaves (R254). -/
def Obligations.StackHolds255Bytes : Prop :=
  ∀ (opc : Word) (n : Nat) (vs : List Byte) (s : State), s.sp = 0xFF →
    (vs.length ≤ 255 → ∃ t, pushAll opc n vs s = .ok t ∧ t.sp = 0xFF - BitVec.ofNat 8 vs.length ∧
      t.ram.read 0x100 = s.ram.read 0x100) ∧
    (vs.length = 256 → ∃ t, pushAll opc n vs s = .error t ∧ t.sp = 0x00 ∧ t.ctl = .halted ∧
      t.fault = some (.stackOverflow 0x00 opc n) ∧ t.ram.read 0x100 = s.ram.read 0x100)

/-- R51. The byte of a peripheral read is a free value: the clause holds for every one. Rests on the spec's decision
D25. -/
def Obligations.BusReadRouting : Prop :=
  ∀ (a : Word) (s : State),
    (a.toNat < 0x2000 → memRead a s = (s.ram.read (a.toNat % 0x0800), s)) ∧
    (0x2000 ≤ a.toNat ∧ a.toNat < 0x4000 → ∃ v, memRead a s =
      (v, { s with events := s.events ++ [.pr (BitVec.ofNat 16 (0x2000 + a.toNat % 8)) v] })) ∧
    (0x4000 ≤ a.toNat ∧ a.toNat < 0x8000 → memRead a s = (0x00, s)) ∧
    (0x8000 ≤ a.toNat → memRead a s = (s.rom.read a.toNat, s))

/-- R52. -/
def Obligations.BusWriteRouting : Prop :=
  ∀ (a : Word) (v : Byte) (s : State),
    (a.toNat < 0x2000 → s.ramWf = true → ∃ m, memWrite a v s = { s with ram := m } ∧ m.read (a.toNat % 0x0800) = v ∧
      ∀ k, k ≠ a.toNat % 0x0800 → m.read k = s.ram.read k) ∧
    (0x2000 ≤ a.toNat ∧ a.toNat < 0x4000 → memWrite a v s =
      { s with events := s.events ++ [.pw (BitVec.ofNat 16 (0x2000 + a.toNat % 8)) v] }) ∧
    (0x4000 ≤ a.toNat → memWrite a v s = s)

/-- R53. -/
def Obligations.RamIsMirrored : Prop :=
  ∀ (a : Word) (j k : Nat) (v : Byte) (s : State), a.toNat < 0x0800 → j < 4 → k < 4 →
    let alias1 := a + BitVec.ofNat 16 (0x0800 * j)
    let alias2 := a + BitVec.ofNat 16 (0x0800 * k)
    memRead alias1 s = memRead alias2 s ∧ memWrite alias1 v s = memWrite alias2 v s ∧
    (s.ramWf = true → memPeek alias2 (memWrite alias1 v s) = v)

/-- R58, R104. Rests on the spec's decision D14. -/
def Obligations.TwoByteReads : Prop :=
  ∀ (a : Word) (s : State),
    let lo := memPeek a s
    let s1 := memTouch a s
    read16 a s = (mkWord (memPeek (a + 1) s1) lo, memTouch (a + 1) s1) ∧
    ∃ h : Word, h.toNat = a.toNat / 256 * 256 + (a.toNat % 256 + 1) % 256 ∧
      readPtr a s = (mkWord (memPeek h s1) lo, memTouch h s1)

/-- R101 to R111 but REL. Rests on the spec's decisions D12, D15 and D30. -/
def Obligations.ResolverFormulas : Prop :=
  ∀ (addr : Word) (off : Byte) (s : State),
    getAddr .abs addr off s = (addr, s) ∧
    ((getAddr .abx addr off s).1.toNat = (addr.toNat + s.x.toNat) % 65536 ∧ (getAddr .abx addr off s).2 = s) ∧
    ((getAddr .aby addr off s).1.toNat = (addr.toNat + s.y.toNat) % 65536 ∧ (getAddr .aby addr off s).2 = s) ∧
    getAddr .ind addr off s = readPtr addr s ∧
    ((getAddr .iix addr off s).1.toNat = ((readPtr addr s).1.toNat + off.toNat) % 65536 ∧
      (getAddr .iix addr off s).2 = (readPtr addr s).2) ∧
    getAddr .ixi addr off s = readPtr (BitVec.ofNat 16 ((addr.toNat % 256 + off.toNat) % 256)) s ∧
    getAddr .zer addr off s = (BitVec.ofNat 16 off.toNat, s) ∧
    getAddr .zex addr off s = (BitVec.ofNat 16 ((s.x.toNat + off.toNat) % 256), s) ∧
    getAddr .zey addr off s = (BitVec.ofNat 16 ((s.y.toNat + off.toNat) % 256), s)

/-- R108. Rests on the spec's decision D16. -/
def Obligations.RelativeTarget : Prop :=
  ∀ (addr : Word) (off : Byte) (s : State),
    getAddr .rel addr off s = (s.pc + sext16 off, s) ∧
    (getAddr .rel addr off s).1.toNat =
      (if 128 ≤ off.toNat then s.pc.toNat + 65536 - (256 - off.toNat) else s.pc.toNat + off.toNat) % 65536

/-- R301. Rests on the spec's decisions D15 and D30. -/
def Obligations.ZeroPageModesStayInZeroPage : Prop :=
  ∀ (b1 : Byte) (s : State),
    (ea (.zer b1) s).1.toNat < 256 ∧ (ea (.zex b1) s).1.toNat < 256 ∧ (ea (.zey b1) s).1.toNat < 256 ∧
    (let p := (b1.toNat + s.x.toNat) % 256
     ea (.ixi b1) s = (mkWord (s.ram.read ((p + 1) % 256)) (s.ram.read p), s)) ∧
    (let p := b1.toNat
     ea (.iix b1) s = (mkWord (s.ram.read ((p + 1) % 256)) (s.ram.read p) + zext16 s.y, s))

/-- R112, R113. -/
def Obligations.OperandFetch : Prop :=
  (∀ (b1 b2 : Byte) (s : State),
      ea (.zer b1) s = getAddr .zer 0 b1 s ∧ ea (.zex b1) s = getAddr .zex 0 b1 s ∧ ea (.zey b1) s = getAddr .zey 0 b1 s ∧
      ea (.abs b1 b2) s = getAddr .abs (mkWord b2 b1) 0 s ∧ ea (.abx b1 b2) s = getAddr .abx (mkWord b2 b1) 0 s ∧
      ea (.aby b1 b2) s = getAddr .aby (mkWord b2 b1) 0 s ∧ ea (.ind b1 b2) s = getAddr .ind (mkWord b2 b1) 0 s ∧
      ea (.ixi b1) s = getAddr .ixi (zext16 b1) s.x s ∧ ea (.iix b1) s = getAddr .iix (zext16 b1) s.y s ∧
      loadOperand (.imm b1) s = (b1, s)) ∧
  (∀ (m : Mem) (s : State),
      (loadOperand (.mem m) s).1 = memPeek (ea m s).1 (ea m s).2 ∧
      (loadOperand (.mem m) s).2.events = (memTouch (ea m s).1 (ea m s).2).events ∧
      Kept [] [] s (loadOperand (.mem m) s).2 ∧ SameMemory s (loadOperand (.mem m) s).2)

/-- R121, R122, R123. This is also the frame of the loads. -/
def Obligations.LoadResult : Prop :=
  formTable .lda = [(.ixi, 0xA1), (.zer, 0xA5), (.imm, 0xA9), (.abs, 0xAD), (.iix, 0xB1), (.zex, 0xB5), (.aby, 0xB9), (.abx, 0xBD)] ∧
  formTable .ldx = [(.imm, 0xA2), (.zer, 0xA6), (.abs, 0xAE), (.zey, 0xB6), (.aby, 0xBE)] ∧
  formTable .ldy = [(.imm, 0xA0), (.zer, 0xA4), (.abs, 0xAC), (.zex, 0xB4), (.abx, 0xBC)] ∧
  ∀ (i : Instr) (r : Reg) (src : Src) (s : State), (i.op, r) ∈ [(.lda, .a), (.ldx, .x), (.ldy, .y)] →
    i.operand = .src src → ∃ t, exec i s = .next t ∧
      readReg r t = (loadOperand src s).1 ∧ NZof (loadOperand src s).1 t ∧ Kept [r] [.n, .z] s t ∧ SameMemory s t ∧
      t.events = (loadOperand src s).2.events ∧ t.penalty = (loadOperand src s).2.penalty

/-- R124, R125, R126. This is also the frame of the stores. -/
def Obligations.StoreResult : Prop :=
  formTable .sta = [(.ixi, 0x81), (.zer, 0x85), (.abs, 0x8D), (.iix, 0x91), (.zex, 0x95), (.aby, 0x99), (.abx, 0x9D)] ∧
  formTable .stx = [(.zer, 0x86), (.abs, 0x8E), (.zey, 0x96)] ∧
  formTable .sty = [(.zer, 0x84), (.abs, 0x8C), (.zex, 0x94)] ∧
  ∀ (i : Instr) (r : Reg) (m : Mem) (s : State), (i.op, r) ∈ [(.sta, .a), (.stx, .x), (.sty, .y)] →
    i.operand = .src (.mem m) → s.ramWf = true → ∃ t, exec i s = .next t ∧
      Wrote (ea m s).1 (readReg r s) (ea m s).2 t ∧ Kept [] [] s t ∧ t.penalty = s.penalty

/-- R128 to R133. This is also the frame of the transfers. -/
def Obligations.TransferResult : Prop :=
  formTable .tax = [(.imp, 0xAA)] ∧
  formTable .tay = [(.imp, 0xA8)] ∧
  formTable .txa = [(.imp, 0x8A)] ∧
  formTable .tya = [(.imp, 0x98)] ∧
  formTable .tsx = [(.imp, 0xBA)] ∧
  formTable .txs = [(.imp, 0x9A)] ∧
  (∀ (i : Instr) (des src : Reg) (s : State),
    (i, des, src) ∈ [(Instr.tax, Reg.x, Reg.a), (.tay, .y, .a), (.txa, .a, .x), (.tya, .a, .y), (.tsx, .x, .sp)] →
    ∃ t, exec i s = .next t ∧ readReg des t = readReg src s ∧ NZof (readReg src s) t ∧
      Kept [des] [.n, .z] s t ∧ SameMemory s t ∧ t.events = s.events ∧ t.penalty = s.penalty) ∧
  (∀ s : State, exec .txs s = .next { s with sp := s.x })

/-- R142, R143. This is also the frame of the pushes. The model's choice: a raised fault is a next state, the halted
one of R254 (log entry 1). Deduced: the address it records is `pc` less the length (R233, log entry 12). Rests
on the spec's decisions D7 and D20. -/
def Obligations.PushInstructionResult : Prop :=
  formTable .pha = [(.imp, 0x48)] ∧
  formTable .php = [(.imp, 0x08)] ∧
  ∀ (i : Instr) (s : State), (i = .pha ∨ i = .php) →
    (s.ramWf = true → s.sp ≠ 0x00 → ∃ t, exec i s = .next t ∧
      StackHolds [if i = .pha then s.a else s.st ||| 0x30] s t ∧ t.sp = s.sp - 1 ∧ Kept [.sp] [] s t ∧
      t.events = s.events ∧ t.penalty = s.penalty) ∧
    (s.sp = 0x00 → exec i s = .next { s with
      ctl := .halted, fault := some (.stackOverflow 0x00 (s.pc - 1) 1) })

/-- R144, R145. This is also the frame of the pulls. The model's choice: a raised fault is a next state, the halted
one of R254 (log entry 1). Deduced: the address it records is `pc` less the length (R233, log entry 12). Rests
on the spec's decisions D20 and D21. -/
def Obligations.PullInstructionResult : Prop :=
  formTable .pla = [(.imp, 0x68)] ∧
  formTable .plp = [(.imp, 0x28)] ∧
  (∀ s : State, s.sp ≠ 0xFF →
    (∃ t, exec .pla s = .next t ∧ t.a = s.ram.read (256 + s.sp.toNat + 1) ∧ NZof t.a t ∧ t.sp = s.sp + 1 ∧
      Kept [.a, .sp] [.n, .z] s t ∧ SameMemory s t ∧ t.events = s.events ∧ t.penalty = s.penalty) ∧
    exec .plp s = .next { s with st := s.ram.read (256 + s.sp.toNat + 1), sp := s.sp + 1 }) ∧
  (∀ (i : Instr) (s : State), (i = .pla ∨ i = .plp) → s.sp = 0xFF → exec i s = .next { s with
      ctl := .halted, fault := some (.stackUnderflow 0xFF (s.pc - 1) 1) })

/-- R152. This is also ADC's frame. Rests on the spec's decision D8. -/
def Obligations.AdcResult : Prop :=
  formTable .adc = [(.ixi, 0x61), (.zer, 0x65), (.imm, 0x69), (.abs, 0x6D), (.iix, 0x71), (.zex, 0x75), (.aby, 0x79), (.abx, 0x7D)] ∧
  ∀ (i : Instr) (src : Src) (s : State), i.op = .adc → i.operand = .src src → ∃ t, exec i s = .next t ∧
      let m := (loadOperand src s).1
      let sum := s.a.toNat + m.toNat + (s.flag .c).toNat
      t.a.toNat = sum % 256 ∧ t.flag .c = decide (sum > 0xFF) ∧
      t.flag .v = ((t.a ^^^ s.a) &&& (t.a ^^^ m) &&& 0x80 != 0x00) ∧ NZof t.a t ∧
      Kept [.a] [.n, .v, .z, .c] s t ∧ SameMemory s t ∧ t.events = (loadOperand src s).2.events ∧
      t.penalty = (loadOperand src s).2.penalty

/-- R153, the pseudocode and its equivalent statement. This is also SBC's frame. Rests on the spec's decision D8. -/
def Obligations.SbcResult : Prop :=
  formTable .sbc = [(.ixi, 0xE1), (.zer, 0xE5), (.imm, 0xE9), (.abs, 0xED), (.iix, 0xF1), (.zex, 0xF5), (.aby, 0xF9), (.abx, 0xFD)] ∧
  ∀ (i : Instr) (src : Src) (s : State), i.op = .sbc → i.operand = .src src → ∃ t, exec i s = .next t ∧
      let m := (loadOperand src s).1
      let borrow : Int := if s.flag .c then 0 else 1
      let d : Int := (s.a.toNat : Int) - m.toNat - borrow
      let sd : Int := s.a.toInt - m.toInt - borrow
      t.a.toNat = (s.a.toNat + (~~~m).toNat + (s.flag .c).toNat) % 256 ∧
      (t.a.toNat : Int) = d % 256 ∧ t.flag .c = decide (0 ≤ d) ∧
      t.flag .v = ((t.a ^^^ s.a) &&& (t.a ^^^ ~~~m) &&& 0x80 != 0x00) ∧
      t.flag .v = decide (sd < -128 ∨ 127 < sd) ∧ NZof t.a t ∧
      Kept [.a] [.n, .v, .z, .c] s t ∧ SameMemory s t ∧ t.events = (loadOperand src s).2.events ∧
      t.penalty = (loadOperand src s).2.penalty

/-- R162: V reports signed (two's-complement) overflow for ADC. -/
def Obligations.AdcOverflowIsSigned : Prop :=
  ∀ (i : Instr) (src : Src) (s : State), i.op = .adc → i.operand = .src src → ∃ t, exec i s = .next t ∧
      let sum : Int := s.a.toInt + (loadOperand src s).1.toInt + (s.flag .c).toNat
      t.flag .v = decide (sum < -128 ∨ 127 < sum)

/-- R154, R155, R156. This is also the frame of the logic instructions. -/
def Obligations.LogicResult : Prop :=
  formTable .and = [(.ixi, 0x21), (.zer, 0x25), (.imm, 0x29), (.abs, 0x2D), (.iix, 0x31), (.zex, 0x35), (.aby, 0x39), (.abx, 0x3D)] ∧
  formTable .eor = [(.ixi, 0x41), (.zer, 0x45), (.imm, 0x49), (.abs, 0x4D), (.iix, 0x51), (.zex, 0x55), (.aby, 0x59), (.abx, 0x5D)] ∧
  formTable .ora = [(.ixi, 0x01), (.zer, 0x05), (.imm, 0x09), (.abs, 0x0D), (.iix, 0x11), (.zex, 0x15), (.aby, 0x19), (.abx, 0x1D)] ∧
  ∀ (i : Instr) (src : Src) (r : Byte) (s : State), logicRule i.op s.a (loadOperand src s).1 = some r →
    i.operand = .src src → ∃ t, exec i s = .next t ∧ t.a = r ∧ NZof r t ∧
      Kept [.a] [.n, .z] s t ∧ SameMemory s t ∧ t.events = (loadOperand src s).2.events ∧
      t.penalty = (loadOperand src s).2.penalty

/-- R158, R159, R160 with the pseudocode of R157. This is also the frame of the compares. Rests on the spec's
decision D26. -/
def Obligations.CompareResult : Prop :=
  formTable .cmp = [(.ixi, 0xC1), (.zer, 0xC5), (.imm, 0xC9), (.abs, 0xCD), (.iix, 0xD1), (.zex, 0xD5), (.aby, 0xD9), (.abx, 0xDD)] ∧
  formTable .cpx = [(.imm, 0xE0), (.zer, 0xE4), (.abs, 0xEC)] ∧
  formTable .cpy = [(.imm, 0xC0), (.zer, 0xC4), (.abs, 0xCC)] ∧
  ∀ (i : Instr) (r : Reg) (src : Src) (s : State), (i.op, r) ∈ [(.cmp, .a), (.cpx, .x), (.cpy, .y)] →
    i.operand = .src src → ∃ t, exec i s = .next t ∧
      let m := (loadOperand src s).1
      t.flag .c = decide (m.toNat ≤ (readReg r s).toNat) ∧ NZof (readReg r s - m) t ∧
      t.flag .z = decide (readReg r s = m) ∧ Kept [] [.n, .z, .c] s t ∧ SameMemory s t ∧
      t.events = (loadOperand src s).2.events ∧ t.penalty = (loadOperand src s).2.penalty

/-- R161. This is also BIT's frame. Rests on the spec's decision D4. -/
def Obligations.BitResult : Prop :=
  formTable .bit = [(.zer, 0x24), (.abs, 0x2C)] ∧
  ∀ (i : Instr) (src : Src) (s : State), i.op = .bit → i.operand = .src src → ∃ t, exec i s = .next t ∧
      let m := (loadOperand src s).1
      t.flag .n = m.getLsbD 7 ∧ t.flag .v = m.getLsbD 6 ∧ t.flag .z = (s.a &&& m == 0x00) ∧
      Kept [] [.n, .v, .z] s t ∧ SameMemory s t ∧ t.events = (loadOperand src s).2.events ∧
      t.penalty = (loadOperand src s).2.penalty

/-- R171 to R174 in the frame of R170, for every form. This is also the frame of the shifts. -/
def Obligations.ShiftResult : Prop :=
  formTable .asl = [(.zer, 0x06), (.acc, 0x0A), (.abs, 0x0E), (.zex, 0x16), (.abx, 0x1E)] ∧
  formTable .lsr = [(.zer, 0x46), (.acc, 0x4A), (.abs, 0x4E), (.zex, 0x56), (.abx, 0x5E)] ∧
  formTable .rol = [(.zer, 0x26), (.acc, 0x2A), (.abs, 0x2E), (.zex, 0x36), (.abx, 0x3E)] ∧
  formTable .ror = [(.zer, 0x66), (.acc, 0x6A), (.abs, 0x6E), (.zex, 0x76), (.abx, 0x7E)] ∧
  (∀ (i : Instr) (r : Nat) (co : Bool) (s : State), i.operand = .acc →
    shiftRule i.op s.a.toNat (s.flag .c).toNat = some (r, co) → ∃ t, exec i s = .next t ∧
      t.a.toNat = r ∧ t.flag .c = co ∧ NZof t.a t ∧ Kept [.a] [.n, .z, .c] s t ∧ SameMemory s t ∧ t.events = s.events ∧
      t.penalty = s.penalty) ∧
  (∀ (i : Instr) (m : Mem) (r : Byte) (co : Bool) (s : State), i.operand = .src (.mem m) → s.ramWf = true →
    let v := memPeek (ea m s).1 (ea m s).2
    shiftRule i.op v.toNat (s.flag .c).toNat = some (r.toNat, co) → ∃ t, exec i s = .next t ∧
      Wrote (ea m s).1 r (memTouch (ea m s).1 (ea m s).2) t ∧ t.flag .c = co ∧ NZof r t ∧
      Kept [] [.n, .z, .c] s t ∧ t.penalty = s.penalty)

/-- R175, R176; to subtract one mod 256 is to add 0xFF. This is also their frame. -/
def Obligations.IncDecMemoryResult : Prop :=
  formTable .inc = [(.zer, 0xE6), (.abs, 0xEE), (.zex, 0xF6), (.abx, 0xFE)] ∧
  formTable .dec = [(.zer, 0xC6), (.abs, 0xCE), (.zex, 0xD6), (.abx, 0xDE)] ∧
  ∀ (i : Instr) (d : Byte) (m : Mem) (s : State), (i.op, d) ∈ [(.inc, 0x01), (.dec, 0xFF)] →
    i.operand = .src (.mem m) → s.ramWf = true → ∃ t, exec i s = .next t ∧
      let r := memPeek (ea m s).1 (ea m s).2 + d
      Wrote (ea m s).1 r (memTouch (ea m s).1 (ea m s).2) t ∧ NZof r t ∧ Kept [] [.n, .z] s t ∧
      t.penalty = s.penalty

/-- R177 to R180; to subtract one mod 256 is to add 255. This is also their frame. -/
def Obligations.IncDecRegisterResult : Prop :=
  formTable .inx = [(.imp, 0xE8)] ∧
  formTable .iny = [(.imp, 0xC8)] ∧
  formTable .dex = [(.imp, 0xCA)] ∧
  formTable .dey = [(.imp, 0x88)] ∧
  ∀ (i : Instr) (r : Reg) (d : Nat) (s : State),
    (i, r, d) ∈ [(Instr.inx, Reg.x, 1), (.iny, .y, 1), (.dex, .x, 255), (.dey, .y, 255)] →
    ∃ t, exec i s = .next t ∧ (readReg r t).toNat = ((readReg r s).toNat + d) % 256 ∧ NZof (readReg r t) t ∧
      Kept [r] [.n, .z] s t ∧ SameMemory s t ∧ t.events = s.events ∧ t.penalty = s.penalty

/-- R182 to R188. This is also their frame. Rests on the spec's decision D6. -/
def Obligations.FlagInstructionResult : Prop :=
  formTable .sec = [(.imp, 0x38)] ∧
  formTable .clc = [(.imp, 0x18)] ∧
  formTable .sei = [(.imp, 0x78)] ∧
  formTable .cli = [(.imp, 0x58)] ∧
  formTable .sed = [(.imp, 0xF8)] ∧
  formTable .cld = [(.imp, 0xD8)] ∧
  formTable .clv = [(.imp, 0xB8)] ∧
  ∀ (i : Instr) (f : Flag) (v : Bool) (s : State),
    (i, f, v) ∈ [(Instr.sec, Flag.c, true), (.clc, .c, false), (.sei, .i, true), (.cli, .i, false), (.sed, .d, true),
      (.cld, .d, false), (.clv, .v, false)] →
    ∃ st', exec i s = .next { s with st := st' } ∧ st'.getLsbD f.bit = v ∧
      ∀ g, g ≠ f → st'.getLsbD g.bit = s.st.getLsbD g.bit

/-- R189. Rests on the spec's decision D4. -/
def Obligations.NopChangesNothing : Prop :=
  formTable .nop = [(.imp, 0xEA)] ∧ Instr.nop.length = 1 ∧ ∀ s : State, exec .nop s = .next s

/-- R201 to R208 with the resolver of R200. `s.pc` is the address after the branch. This is also their frame. Rests
on the spec's decision D16. -/
def Obligations.BranchResult : Prop :=
  formTable .bcc = [(.rel, 0x90)] ∧
  formTable .bcs = [(.rel, 0xB0)] ∧
  formTable .beq = [(.rel, 0xF0)] ∧
  formTable .bne = [(.rel, 0xD0)] ∧
  formTable .bmi = [(.rel, 0x30)] ∧
  formTable .bpl = [(.rel, 0x10)] ∧
  formTable .bvc = [(.rel, 0x50)] ∧
  formTable .bvs = [(.rel, 0x70)] ∧
  ∀ (i : Instr) (f : Flag) (v : Bool) (off : Byte) (s : State), (i.op, f, v) ∈ branchOps → i.operand = .rel off →
    (s.flag f = v → exec i s = .next { s with pc := s.pc + sext16 off, penalty := s.penalty + 1 }) ∧
    (s.flag f ≠ v → exec i s = .next s)

/-- R209. This is also JMP's frame. -/
def Obligations.JmpResult : Prop :=
  formTable .jmp = [(.abs, 0x4C), (.ind, 0x6C)] ∧
  ∀ (b1 b2 : Byte) (s : State),
    exec (.jmpAbs b1 b2) s = .next { s with pc := mkWord b2 b1 } ∧
    (let lo := memPeek (mkWord b2 b1) s
     let s1 := memTouch (mkWord b2 b1) s
     let hi := memPeek (mkWord b2 (b1 + 1)) s1
     exec (.jmpInd b1 b2) s = .next { memTouch (mkWord b2 (b1 + 1)) s1 with pc := mkWord hi lo })

/-- R210. `s.pc` is the address after the JSR. This is also JSR's frame. The model's choice: a raised fault is a
next state, the halted one of R254 (log entry 1). Deduced: the address it records is `pc` less the length (R233,
log entry 12). Rests on the spec's decision D17. -/
def Obligations.JsrResult : Prop :=
  formTable .jsr = [(.abs, 0x20)] ∧
  ∀ (b1 b2 : Byte) (s : State), s.ramWf = true →
    (2 ≤ s.sp.toNat → ∃ t, exec (.jsr b1 b2) s = .next t ∧
      StackHolds [hiByte (s.pc - 1), loByte (s.pc - 1)] s t ∧ t.sp = s.sp - 2 ∧ t.pc = mkWord b2 b1 ∧
      Kept [.sp, .pcl, .pch] [] s t ∧ t.events = s.events ∧ t.penalty = s.penalty) ∧
    (s.sp = 0x01 → ∃ t, exec (.jsr b1 b2) s = .next t ∧ StackHolds [hiByte (s.pc - 1)] s t ∧ t.sp = 0x00 ∧
      t.pc = s.pc ∧ t.ctl = .halted ∧ t.fault = some (.stackOverflow 0x00 (s.pc - 3) 2) ∧ t.st = s.st ∧
      RegsKept [.sp] s t ∧ t.events = s.events) ∧
    (s.sp = 0x00 → exec (.jsr b1 b2) s = .next { s with
      ctl := .halted, fault := some (.stackOverflow 0x00 (s.pc - 3) 1) })

/-- R211. This is also RTS's frame. The model's choice: a raised fault is a next state, the halted one of R254 (log
entry 1). Deduced: the address it records is `pc` less the length (R233, log entry 12). Rests on the spec's
decision D17. -/
def Obligations.RtsResult : Prop :=
  formTable .rts = [(.imp, 0x60)] ∧
  ∀ s : State,
    (s.sp.toNat ≤ 0xFD → exec .rts s = .next { s with
      sp := s.sp + 2,
      pc := mkWord (s.ram.read (256 + s.sp.toNat + 2)) (s.ram.read (256 + s.sp.toNat + 1)) + 1 }) ∧
    (s.sp = 0xFE → exec .rts s = .next { s with
      sp := 0xFF, ctl := .halted, fault := some (.stackUnderflow 0xFF (s.pc - 1) 2) }) ∧
    (s.sp = 0xFF → exec .rts s = .next { s with
      ctl := .halted, fault := some (.stackUnderflow 0xFF (s.pc - 1) 1) })

/-- R210, R211: plus one is the inverse of JSR's minus one. Rests on the spec's decision D17. -/
def Obligations.SubroutineReturnsAfterCall : Prop :=
  ∀ (b1 b2 : Byte) (p : Word) (s t : State), s.ramWf = true → 2 ≤ s.sp.toNat → exec (.jsr b1 b2) s = .next t →
    ∃ u, exec .rts { t with pc := p } = .next u ∧ u.pc = s.pc ∧ Kept [] [] s u

/-- R254, R255. The model's choice: a raised fault is a next state, the halted one (log entry 1). -/
def Obligations.EveryInstructionCompletes : Prop :=
  ∀ (i : Instr) (s : State), ∃ t, exec i s = .next t

/-- R42, the access table, over all instructions. -/
def Obligations.RegisterWriters : Prop :=
  ∀ (i : Instr) (s t : State), exec i s = .next t →
    (i.op ∉ [.lda, .pla, .txa, .tya, .adc, .sbc, .and, .eor, .ora] → i.operand ≠ .acc → t.a = s.a) ∧
    (i.op ∉ [.ldx, .tax, .tsx, .inx, .dex] → t.x = s.x) ∧
    (i.op ∉ [.ldy, .tay, .iny, .dey] → t.y = s.y) ∧
    (i.op ∉ [.txs, .pha, .php, .pla, .plp, .jsr, .rts, .brk, .rti] → t.sp = s.sp) ∧
    (i.op ∉ [.bcc, .bcs, .beq, .bne, .bmi, .bpl, .bvc, .bvs, .jmp, .jsr, .rts, .brk, .rti] → t.pc = s.pc)

/-- R26 to R31 over all instructions; the first list is R26's "Not written by". -/
def Obligations.FlagWriters : Prop :=
  ∀ (i : Instr) (s t : State), exec i s = .next t →
    (i.op ∈ [.sta, .stx, .sty, .txs, .pha, .php, .bcc, .bcs, .beq, .bne, .bmi, .bpl, .bvc, .bvs, .jmp, .jsr, .rts, .brk,
        .nop, .sec, .clc, .sei, .cli, .sed, .cld, .clv] → t.flag .n = s.flag .n ∧ t.flag .z = s.flag .z) ∧
    (i.op ∉ [.adc, .sbc, .cmp, .cpx, .cpy, .asl, .lsr, .rol, .ror, .sec, .clc, .plp, .rti] → t.flag .c = s.flag .c) ∧
    (i.op ∉ [.adc, .sbc, .bit, .clv, .plp, .rti] → t.flag .v = s.flag .v) ∧
    (i.op ∉ [.brk, .sei, .cli, .plp, .rti] → t.flag .i = s.flag .i) ∧
    (i.op ∉ [.sed, .cld, .plp, .rti] → t.flag .d = s.flag .d) ∧
    (i.op ∉ [.plp, .rti] → t.flag .b = s.flag .b ∧ t.flag .u = s.flag .u)

/-- R71: exactly the listed accesses. -/
def Obligations.MemoryWriters : Prop :=
  ∀ (i : Instr) (s t : State), exec i s = .next t →
    i.op ∉ [.sta, .stx, .sty, .inc, .dec, .pha, .php, .jsr, .brk] →
    (i.op ∈ [.asl, .lsr, .rol, .ror] → i.operand = .acc) →
    SameMemory s t ∧ ∃ l, t.events = s.events ++ l ∧ ∀ e ∈ l, ∃ addr v, e = .pr addr v

/-- R299, R54, R71, for every form: pointer reads are in the zero page and so no events (R61). The byte read is the
free value of log entry 4, the form of the event history the model's (log entry 5). -/
def Obligations.PeripheralAccessesAreEvents : Prop :=
  (∀ (i : Instr) (m : Mem) (reg : Word) (s : State), i.operand = .src (.mem m) → route (ea m s).1 = .periph reg →
    let v := memPeek (ea m s).1 s
    (i.op ∈ readOps → ∃ t, exec i s = .next t ∧ t.events = s.events ++ [.pr reg v] ∧ SameMemory s t ∧
      ∀ r, (i.op, r) ∈ [(.lda, .a), (.ldx, .x), (.ldy, .y)] → readReg r t = v ∧ NZof v t) ∧
    (∀ r, (i.op, r) ∈ [(.sta, .a), (.stx, .x), (.sty, .y)] → ∃ t, exec i s = .next t ∧
      t.events = s.events ++ [.pw reg (readReg r s)] ∧ SameMemory s t) ∧
    (i.op ∈ [.asl, .lsr, .rol, .ror, .inc, .dec] → ∃ w t, exec i s = .next t ∧
      t.events = s.events ++ [.pr reg v, .pw reg w] ∧ SameMemory s t ∧ NZof w t ∧
      (i.op = .inc → w = v + 1) ∧ (i.op = .dec → w = v - 1) ∧
      ∀ r co, shiftRule i.op v.toNat (s.flag .c).toNat = some (r, co) → w.toNat = r ∧ t.flag .c = co)) ∧
  ∀ (reg : Word) (s : State), route s.pc = .periph reg → ∃ v, fetch8 s =
    (v, { s with pc := s.pc + 1, events := s.events ++ [.pr reg v] })

/-- R304 (a) and (b), R115. Timing only. Rests on the spec's decision D29. -/
def Obligations.PenaltyCycles : Prop :=
  ∀ (i : Instr) (s t : State), exec i s = .next t →
    ((∃ m, i.op ∈ readOps ∧ i.operand = .src (.mem m) ∧ leavesPage m s) ∨
        (∃ f v, (i.op, f, v) ∈ branchOps ∧ s.flag f = v) → t.penalty = s.penalty + 1) ∧
    (¬ ((∃ m, i.op ∈ readOps ∧ i.operand = .src (.mem m) ∧ leavesPage m s) ∨
        (∃ f v, (i.op, f, v) ∈ branchOps ∧ s.flag f = v)) → t.penalty = s.penalty)

/-- R238. Rests on the spec's decision D29. -/
def Obligations.ClockRunsThenCounts : Prop :=
  ∀ s : State,
    (s.ctl = .run → s.cyclesLeft = 0 → ∀ t, transition .step s = .next t →
      transition .clock s = .next { t with cyclesLeft := t.cyclesLeft - 1 }) ∧
    (¬ (s.ctl = .run ∧ s.cyclesLeft = 0) →
      transition .clock s = .next { s with cyclesLeft := s.cyclesLeft - 1 })
end

