-- ==== Sys2Proof/Laws/State.lean ====
section
/-!
SUPPORT. One lemma per field per update of the state, so that no later proof unfolds a record update.
-/

namespace Sys2Proof.Machine

@[simp] theorem State.setFlag_a (f : Flag) (v : Bool) (s : State) : (s.setFlag f v).a = s.a := rfl
@[simp] theorem State.setFlag_x (f : Flag) (v : Bool) (s : State) : (s.setFlag f v).x = s.x := rfl
@[simp] theorem State.setFlag_y (f : Flag) (v : Bool) (s : State) : (s.setFlag f v).y = s.y := rfl
@[simp] theorem State.setFlag_st (f : Flag) (v : Bool) (s : State) : (s.setFlag f v).st = withFlag f v s.st := rfl
@[simp] theorem State.setFlag_sp (f : Flag) (v : Bool) (s : State) : (s.setFlag f v).sp = s.sp := rfl
@[simp] theorem State.setFlag_pc (f : Flag) (v : Bool) (s : State) : (s.setFlag f v).pc = s.pc := rfl
@[simp] theorem State.setFlag_ram (f : Flag) (v : Bool) (s : State) : (s.setFlag f v).ram = s.ram := rfl
@[simp] theorem State.setFlag_rom (f : Flag) (v : Bool) (s : State) : (s.setFlag f v).rom = s.rom := rfl
@[simp] theorem State.setFlag_ctl (f : Flag) (v : Bool) (s : State) : (s.setFlag f v).ctl = s.ctl := rfl
@[simp] theorem State.setFlag_fault (f : Flag) (v : Bool) (s : State) : (s.setFlag f v).fault = s.fault := rfl
@[simp] theorem State.setFlag_cyclesLeft (f : Flag) (v : Bool) (s : State) : (s.setFlag f v).cyclesLeft = s.cyclesLeft := rfl
@[simp] theorem State.setFlag_penalty (f : Flag) (v : Bool) (s : State) : (s.setFlag f v).penalty = s.penalty := rfl
@[simp] theorem State.setFlag_events (f : Flag) (v : Bool) (s : State) : (s.setFlag f v).events = s.events := rfl
@[simp] theorem State.setFlag_schedule (f : Flag) (v : Bool) (s : State) : (s.setFlag f v).schedule = s.schedule := rfl

@[simp] theorem setNZ_a (v : Byte) (s : State) : (setNZ v s).a = s.a := rfl
@[simp] theorem setNZ_x (v : Byte) (s : State) : (setNZ v s).x = s.x := rfl
@[simp] theorem setNZ_y (v : Byte) (s : State) : (setNZ v s).y = s.y := rfl
@[simp] theorem setNZ_st (v : Byte) (s : State) : (setNZ v s).st = withFlag .z (v == 0x00) (withFlag .n (v.getLsbD 7) s.st) := rfl
@[simp] theorem setNZ_sp (v : Byte) (s : State) : (setNZ v s).sp = s.sp := rfl
@[simp] theorem setNZ_pc (v : Byte) (s : State) : (setNZ v s).pc = s.pc := rfl
@[simp] theorem setNZ_ram (v : Byte) (s : State) : (setNZ v s).ram = s.ram := rfl
@[simp] theorem setNZ_rom (v : Byte) (s : State) : (setNZ v s).rom = s.rom := rfl
@[simp] theorem setNZ_ctl (v : Byte) (s : State) : (setNZ v s).ctl = s.ctl := rfl
@[simp] theorem setNZ_fault (v : Byte) (s : State) : (setNZ v s).fault = s.fault := rfl
@[simp] theorem setNZ_cyclesLeft (v : Byte) (s : State) : (setNZ v s).cyclesLeft = s.cyclesLeft := rfl
@[simp] theorem setNZ_penalty (v : Byte) (s : State) : (setNZ v s).penalty = s.penalty := rfl
@[simp] theorem setNZ_events (v : Byte) (s : State) : (setNZ v s).events = s.events := rfl
@[simp] theorem setNZ_schedule (v : Byte) (s : State) : (setNZ v s).schedule = s.schedule := rfl

@[simp] theorem State.setPc_a (t : Word) (s : State) : (s.setPc t).a = s.a := rfl
@[simp] theorem State.setPc_x (t : Word) (s : State) : (s.setPc t).x = s.x := rfl
@[simp] theorem State.setPc_y (t : Word) (s : State) : (s.setPc t).y = s.y := rfl
@[simp] theorem State.setPc_st (t : Word) (s : State) : (s.setPc t).st = s.st := rfl
@[simp] theorem State.setPc_sp (t : Word) (s : State) : (s.setPc t).sp = s.sp := rfl
@[simp] theorem State.setPc_pc (t : Word) (s : State) : (s.setPc t).pc = t := rfl
@[simp] theorem State.setPc_ram (t : Word) (s : State) : (s.setPc t).ram = s.ram := rfl
@[simp] theorem State.setPc_rom (t : Word) (s : State) : (s.setPc t).rom = s.rom := rfl
@[simp] theorem State.setPc_ctl (t : Word) (s : State) : (s.setPc t).ctl = s.ctl := rfl
@[simp] theorem State.setPc_fault (t : Word) (s : State) : (s.setPc t).fault = s.fault := rfl
@[simp] theorem State.setPc_cyclesLeft (t : Word) (s : State) : (s.setPc t).cyclesLeft = s.cyclesLeft := rfl
@[simp] theorem State.setPc_penalty (t : Word) (s : State) : (s.setPc t).penalty = s.penalty := rfl
@[simp] theorem State.setPc_events (t : Word) (s : State) : (s.setPc t).events = s.events := rfl
@[simp] theorem State.setPc_schedule (t : Word) (s : State) : (s.setPc t).schedule = s.schedule := rfl

@[simp] theorem State.addPenalty_a (n : Nat) (s : State) : (s.addPenalty n).a = s.a := rfl
@[simp] theorem State.addPenalty_x (n : Nat) (s : State) : (s.addPenalty n).x = s.x := rfl
@[simp] theorem State.addPenalty_y (n : Nat) (s : State) : (s.addPenalty n).y = s.y := rfl
@[simp] theorem State.addPenalty_st (n : Nat) (s : State) : (s.addPenalty n).st = s.st := rfl
@[simp] theorem State.addPenalty_sp (n : Nat) (s : State) : (s.addPenalty n).sp = s.sp := rfl
@[simp] theorem State.addPenalty_pc (n : Nat) (s : State) : (s.addPenalty n).pc = s.pc := rfl
@[simp] theorem State.addPenalty_ram (n : Nat) (s : State) : (s.addPenalty n).ram = s.ram := rfl
@[simp] theorem State.addPenalty_rom (n : Nat) (s : State) : (s.addPenalty n).rom = s.rom := rfl
@[simp] theorem State.addPenalty_ctl (n : Nat) (s : State) : (s.addPenalty n).ctl = s.ctl := rfl
@[simp] theorem State.addPenalty_fault (n : Nat) (s : State) : (s.addPenalty n).fault = s.fault := rfl
@[simp] theorem State.addPenalty_cyclesLeft (n : Nat) (s : State) : (s.addPenalty n).cyclesLeft = s.cyclesLeft := rfl
@[simp] theorem State.addPenalty_penalty (n : Nat) (s : State) : (s.addPenalty n).penalty = s.penalty + n := rfl
@[simp] theorem State.addPenalty_events (n : Nat) (s : State) : (s.addPenalty n).events = s.events := rfl
@[simp] theorem State.addPenalty_schedule (n : Nat) (s : State) : (s.addPenalty n).schedule = s.schedule := rfl

@[simp] theorem raise_a (i : FaultInfo) (s : State) : (raise i s).a = s.a := rfl
@[simp] theorem raise_x (i : FaultInfo) (s : State) : (raise i s).x = s.x := rfl
@[simp] theorem raise_y (i : FaultInfo) (s : State) : (raise i s).y = s.y := rfl
@[simp] theorem raise_st (i : FaultInfo) (s : State) : (raise i s).st = s.st := rfl
@[simp] theorem raise_sp (i : FaultInfo) (s : State) : (raise i s).sp = s.sp := rfl
@[simp] theorem raise_pc (i : FaultInfo) (s : State) : (raise i s).pc = s.pc := rfl
@[simp] theorem raise_ram (i : FaultInfo) (s : State) : (raise i s).ram = s.ram := rfl
@[simp] theorem raise_rom (i : FaultInfo) (s : State) : (raise i s).rom = s.rom := rfl
@[simp] theorem raise_ctl (i : FaultInfo) (s : State) : (raise i s).ctl = .halted := rfl
@[simp] theorem raise_fault (i : FaultInfo) (s : State) : (raise i s).fault = some i := rfl
@[simp] theorem raise_cyclesLeft (i : FaultInfo) (s : State) : (raise i s).cyclesLeft = s.cyclesLeft := rfl
@[simp] theorem raise_penalty (i : FaultInfo) (s : State) : (raise i s).penalty = s.penalty := rfl
@[simp] theorem raise_events (i : FaultInfo) (s : State) : (raise i s).events = s.events := rfl
@[simp] theorem raise_schedule (i : FaultInfo) (s : State) : (raise i s).schedule = s.schedule := rfl

@[simp] theorem setMask_a (m : Byte) (s : State) : (setMask m s).a = s.a := rfl
@[simp] theorem setMask_x (m : Byte) (s : State) : (setMask m s).x = s.x := rfl
@[simp] theorem setMask_y (m : Byte) (s : State) : (setMask m s).y = s.y := rfl
@[simp] theorem setMask_st (m : Byte) (s : State) : (setMask m s).st = orMask m s.st := rfl
@[simp] theorem setMask_sp (m : Byte) (s : State) : (setMask m s).sp = s.sp := rfl
@[simp] theorem setMask_pc (m : Byte) (s : State) : (setMask m s).pc = s.pc := rfl
@[simp] theorem setMask_ram (m : Byte) (s : State) : (setMask m s).ram = s.ram := rfl
@[simp] theorem setMask_rom (m : Byte) (s : State) : (setMask m s).rom = s.rom := rfl
@[simp] theorem setMask_ctl (m : Byte) (s : State) : (setMask m s).ctl = s.ctl := rfl
@[simp] theorem setMask_fault (m : Byte) (s : State) : (setMask m s).fault = s.fault := rfl
@[simp] theorem setMask_cyclesLeft (m : Byte) (s : State) : (setMask m s).cyclesLeft = s.cyclesLeft := rfl
@[simp] theorem setMask_penalty (m : Byte) (s : State) : (setMask m s).penalty = s.penalty := rfl
@[simp] theorem setMask_events (m : Byte) (s : State) : (setMask m s).events = s.events := rfl
@[simp] theorem setMask_schedule (m : Byte) (s : State) : (setMask m s).schedule = s.schedule := rfl

@[simp] theorem clrMask_a (m : Byte) (s : State) : (clrMask m s).a = s.a := rfl
@[simp] theorem clrMask_x (m : Byte) (s : State) : (clrMask m s).x = s.x := rfl
@[simp] theorem clrMask_y (m : Byte) (s : State) : (clrMask m s).y = s.y := rfl
@[simp] theorem clrMask_st (m : Byte) (s : State) : (clrMask m s).st = clearMask m s.st := rfl
@[simp] theorem clrMask_sp (m : Byte) (s : State) : (clrMask m s).sp = s.sp := rfl
@[simp] theorem clrMask_pc (m : Byte) (s : State) : (clrMask m s).pc = s.pc := rfl
@[simp] theorem clrMask_ram (m : Byte) (s : State) : (clrMask m s).ram = s.ram := rfl
@[simp] theorem clrMask_rom (m : Byte) (s : State) : (clrMask m s).rom = s.rom := rfl
@[simp] theorem clrMask_ctl (m : Byte) (s : State) : (clrMask m s).ctl = s.ctl := rfl
@[simp] theorem clrMask_fault (m : Byte) (s : State) : (clrMask m s).fault = s.fault := rfl
@[simp] theorem clrMask_cyclesLeft (m : Byte) (s : State) : (clrMask m s).cyclesLeft = s.cyclesLeft := rfl
@[simp] theorem clrMask_penalty (m : Byte) (s : State) : (clrMask m s).penalty = s.penalty := rfl
@[simp] theorem clrMask_events (m : Byte) (s : State) : (clrMask m s).events = s.events := rfl
@[simp] theorem clrMask_schedule (m : Byte) (s : State) : (clrMask m s).schedule = s.schedule := rfl

@[simp] theorem tick_a  (s : State) : (tick s).a = s.a := rfl
@[simp] theorem tick_x  (s : State) : (tick s).x = s.x := rfl
@[simp] theorem tick_y  (s : State) : (tick s).y = s.y := rfl
@[simp] theorem tick_st  (s : State) : (tick s).st = s.st := rfl
@[simp] theorem tick_sp  (s : State) : (tick s).sp = s.sp := rfl
@[simp] theorem tick_pc  (s : State) : (tick s).pc = s.pc := rfl
@[simp] theorem tick_ram  (s : State) : (tick s).ram = s.ram := rfl
@[simp] theorem tick_rom  (s : State) : (tick s).rom = s.rom := rfl
@[simp] theorem tick_ctl  (s : State) : (tick s).ctl = s.ctl := rfl
@[simp] theorem tick_fault  (s : State) : (tick s).fault = s.fault := rfl
@[simp] theorem tick_cyclesLeft  (s : State) : (tick s).cyclesLeft = s.cyclesLeft - 1 := rfl
@[simp] theorem tick_penalty  (s : State) : (tick s).penalty = s.penalty := rfl
@[simp] theorem tick_events  (s : State) : (tick s).events = s.events := rfl
@[simp] theorem tick_schedule  (s : State) : (tick s).schedule = s.schedule := rfl

@[simp] theorem writeReg_a_a (v : Byte) (s : State) : (writeReg .a v s).a = v := rfl
@[simp] theorem writeReg_a_x (v : Byte) (s : State) : (writeReg .a v s).x = s.x := rfl
@[simp] theorem writeReg_a_y (v : Byte) (s : State) : (writeReg .a v s).y = s.y := rfl
@[simp] theorem writeReg_a_st (v : Byte) (s : State) : (writeReg .a v s).st = s.st := rfl
@[simp] theorem writeReg_a_sp (v : Byte) (s : State) : (writeReg .a v s).sp = s.sp := rfl
@[simp] theorem writeReg_a_pc (v : Byte) (s : State) : (writeReg .a v s).pc = s.pc := rfl

@[simp] theorem writeReg_x_a (v : Byte) (s : State) : (writeReg .x v s).a = s.a := rfl
@[simp] theorem writeReg_x_x (v : Byte) (s : State) : (writeReg .x v s).x = v := rfl
@[simp] theorem writeReg_x_y (v : Byte) (s : State) : (writeReg .x v s).y = s.y := rfl
@[simp] theorem writeReg_x_st (v : Byte) (s : State) : (writeReg .x v s).st = s.st := rfl
@[simp] theorem writeReg_x_sp (v : Byte) (s : State) : (writeReg .x v s).sp = s.sp := rfl
@[simp] theorem writeReg_x_pc (v : Byte) (s : State) : (writeReg .x v s).pc = s.pc := rfl

@[simp] theorem writeReg_y_a (v : Byte) (s : State) : (writeReg .y v s).a = s.a := rfl
@[simp] theorem writeReg_y_x (v : Byte) (s : State) : (writeReg .y v s).x = s.x := rfl
@[simp] theorem writeReg_y_y (v : Byte) (s : State) : (writeReg .y v s).y = v := rfl
@[simp] theorem writeReg_y_st (v : Byte) (s : State) : (writeReg .y v s).st = s.st := rfl
@[simp] theorem writeReg_y_sp (v : Byte) (s : State) : (writeReg .y v s).sp = s.sp := rfl
@[simp] theorem writeReg_y_pc (v : Byte) (s : State) : (writeReg .y v s).pc = s.pc := rfl

@[simp] theorem writeReg_st_a (v : Byte) (s : State) : (writeReg .st v s).a = s.a := rfl
@[simp] theorem writeReg_st_x (v : Byte) (s : State) : (writeReg .st v s).x = s.x := rfl
@[simp] theorem writeReg_st_y (v : Byte) (s : State) : (writeReg .st v s).y = s.y := rfl
@[simp] theorem writeReg_st_st (v : Byte) (s : State) : (writeReg .st v s).st = v := rfl
@[simp] theorem writeReg_st_sp (v : Byte) (s : State) : (writeReg .st v s).sp = s.sp := rfl
@[simp] theorem writeReg_st_pc (v : Byte) (s : State) : (writeReg .st v s).pc = s.pc := rfl

@[simp] theorem writeReg_sp_a (v : Byte) (s : State) : (writeReg .sp v s).a = s.a := rfl
@[simp] theorem writeReg_sp_x (v : Byte) (s : State) : (writeReg .sp v s).x = s.x := rfl
@[simp] theorem writeReg_sp_y (v : Byte) (s : State) : (writeReg .sp v s).y = s.y := rfl
@[simp] theorem writeReg_sp_st (v : Byte) (s : State) : (writeReg .sp v s).st = s.st := rfl
@[simp] theorem writeReg_sp_sp (v : Byte) (s : State) : (writeReg .sp v s).sp = v := rfl
@[simp] theorem writeReg_sp_pc (v : Byte) (s : State) : (writeReg .sp v s).pc = s.pc := rfl

@[simp] theorem writeReg_pcl_a (v : Byte) (s : State) : (writeReg .pcl v s).a = s.a := rfl
@[simp] theorem writeReg_pcl_x (v : Byte) (s : State) : (writeReg .pcl v s).x = s.x := rfl
@[simp] theorem writeReg_pcl_y (v : Byte) (s : State) : (writeReg .pcl v s).y = s.y := rfl
@[simp] theorem writeReg_pcl_st (v : Byte) (s : State) : (writeReg .pcl v s).st = s.st := rfl
@[simp] theorem writeReg_pcl_sp (v : Byte) (s : State) : (writeReg .pcl v s).sp = s.sp := rfl
@[simp] theorem writeReg_pcl_pc (v : Byte) (s : State) : (writeReg .pcl v s).pc = mkWord (hiByte s.pc) v := rfl

@[simp] theorem writeReg_pch_a (v : Byte) (s : State) : (writeReg .pch v s).a = s.a := rfl
@[simp] theorem writeReg_pch_x (v : Byte) (s : State) : (writeReg .pch v s).x = s.x := rfl
@[simp] theorem writeReg_pch_y (v : Byte) (s : State) : (writeReg .pch v s).y = s.y := rfl
@[simp] theorem writeReg_pch_st (v : Byte) (s : State) : (writeReg .pch v s).st = s.st := rfl
@[simp] theorem writeReg_pch_sp (v : Byte) (s : State) : (writeReg .pch v s).sp = s.sp := rfl
@[simp] theorem writeReg_pch_pc (v : Byte) (s : State) : (writeReg .pch v s).pc = mkWord v (loByte s.pc) := rfl

@[simp] theorem writeReg_ram (r : Reg) (v : Byte) (s : State) : (writeReg r v s).ram = s.ram := by cases r <;> rfl
@[simp] theorem writeReg_rom (r : Reg) (v : Byte) (s : State) : (writeReg r v s).rom = s.rom := by cases r <;> rfl
@[simp] theorem writeReg_ctl (r : Reg) (v : Byte) (s : State) : (writeReg r v s).ctl = s.ctl := by cases r <;> rfl
@[simp] theorem writeReg_fault (r : Reg) (v : Byte) (s : State) : (writeReg r v s).fault = s.fault := by cases r <;> rfl
@[simp] theorem writeReg_cyclesLeft (r : Reg) (v : Byte) (s : State) : (writeReg r v s).cyclesLeft = s.cyclesLeft := by cases r <;> rfl
@[simp] theorem writeReg_penalty (r : Reg) (v : Byte) (s : State) : (writeReg r v s).penalty = s.penalty := by cases r <;> rfl
@[simp] theorem writeReg_events (r : Reg) (v : Byte) (s : State) : (writeReg r v s).events = s.events := by cases r <;> rfl
@[simp] theorem writeReg_schedule (r : Reg) (v : Byte) (s : State) : (writeReg r v s).schedule = s.schedule := by cases r <;> rfl

@[simp] theorem memTouch_a (a : Word) (s : State) : (memTouch a s).a = s.a := by
  unfold memTouch; split <;> rfl
@[simp] theorem memTouch_x (a : Word) (s : State) : (memTouch a s).x = s.x := by
  unfold memTouch; split <;> rfl
@[simp] theorem memTouch_y (a : Word) (s : State) : (memTouch a s).y = s.y := by
  unfold memTouch; split <;> rfl
@[simp] theorem memTouch_st (a : Word) (s : State) : (memTouch a s).st = s.st := by
  unfold memTouch; split <;> rfl
@[simp] theorem memTouch_sp (a : Word) (s : State) : (memTouch a s).sp = s.sp := by
  unfold memTouch; split <;> rfl
@[simp] theorem memTouch_pc (a : Word) (s : State) : (memTouch a s).pc = s.pc := by
  unfold memTouch; split <;> rfl
@[simp] theorem memTouch_ram (a : Word) (s : State) : (memTouch a s).ram = s.ram := by
  unfold memTouch; split <;> rfl
@[simp] theorem memTouch_rom (a : Word) (s : State) : (memTouch a s).rom = s.rom := by
  unfold memTouch; split <;> rfl
@[simp] theorem memTouch_ctl (a : Word) (s : State) : (memTouch a s).ctl = s.ctl := by
  unfold memTouch; split <;> rfl
@[simp] theorem memTouch_fault (a : Word) (s : State) : (memTouch a s).fault = s.fault := by
  unfold memTouch; split <;> rfl
@[simp] theorem memTouch_cyclesLeft (a : Word) (s : State) : (memTouch a s).cyclesLeft = s.cyclesLeft := by
  unfold memTouch; split <;> rfl
@[simp] theorem memTouch_penalty (a : Word) (s : State) : (memTouch a s).penalty = s.penalty := by
  unfold memTouch; split <;> rfl
@[simp] theorem memTouch_schedule (a : Word) (s : State) : (memTouch a s).schedule = s.schedule := by
  unfold memTouch; split <;> rfl
@[simp] theorem memWrite_a (a : Word) (v : Byte) (s : State) : (memWrite a v s).a = s.a := by
  unfold memWrite; split <;> rfl
@[simp] theorem memWrite_x (a : Word) (v : Byte) (s : State) : (memWrite a v s).x = s.x := by
  unfold memWrite; split <;> rfl
@[simp] theorem memWrite_y (a : Word) (v : Byte) (s : State) : (memWrite a v s).y = s.y := by
  unfold memWrite; split <;> rfl
@[simp] theorem memWrite_st (a : Word) (v : Byte) (s : State) : (memWrite a v s).st = s.st := by
  unfold memWrite; split <;> rfl
@[simp] theorem memWrite_sp (a : Word) (v : Byte) (s : State) : (memWrite a v s).sp = s.sp := by
  unfold memWrite; split <;> rfl
@[simp] theorem memWrite_pc (a : Word) (v : Byte) (s : State) : (memWrite a v s).pc = s.pc := by
  unfold memWrite; split <;> rfl
@[simp] theorem memWrite_rom (a : Word) (v : Byte) (s : State) : (memWrite a v s).rom = s.rom := by
  unfold memWrite; split <;> rfl
@[simp] theorem memWrite_ctl (a : Word) (v : Byte) (s : State) : (memWrite a v s).ctl = s.ctl := by
  unfold memWrite; split <;> rfl
@[simp] theorem memWrite_fault (a : Word) (v : Byte) (s : State) : (memWrite a v s).fault = s.fault := by
  unfold memWrite; split <;> rfl
@[simp] theorem memWrite_cyclesLeft (a : Word) (v : Byte) (s : State) : (memWrite a v s).cyclesLeft = s.cyclesLeft := by
  unfold memWrite; split <;> rfl
@[simp] theorem memWrite_penalty (a : Word) (v : Byte) (s : State) : (memWrite a v s).penalty = s.penalty := by
  unfold memWrite; split <;> rfl
@[simp] theorem memWrite_schedule (a : Word) (v : Byte) (s : State) : (memWrite a v s).schedule = s.schedule := by
  unfold memWrite; split <;> rfl

@[simp] theorem retire_a (i : Instr) (s : State) : (retire i s).a = s.a := by
  unfold retire; split <;> rfl
@[simp] theorem retire_x (i : Instr) (s : State) : (retire i s).x = s.x := by
  unfold retire; split <;> rfl
@[simp] theorem retire_y (i : Instr) (s : State) : (retire i s).y = s.y := by
  unfold retire; split <;> rfl
@[simp] theorem retire_st (i : Instr) (s : State) : (retire i s).st = s.st := by
  unfold retire; split <;> rfl
@[simp] theorem retire_sp (i : Instr) (s : State) : (retire i s).sp = s.sp := by
  unfold retire; split <;> rfl
@[simp] theorem retire_pc (i : Instr) (s : State) : (retire i s).pc = s.pc := by
  unfold retire; split <;> rfl
@[simp] theorem retire_ram (i : Instr) (s : State) : (retire i s).ram = s.ram := by
  unfold retire; split <;> rfl
@[simp] theorem retire_rom (i : Instr) (s : State) : (retire i s).rom = s.rom := by
  unfold retire; split <;> rfl
@[simp] theorem retire_ctl (i : Instr) (s : State) : (retire i s).ctl = s.ctl := by
  unfold retire; split <;> rfl
@[simp] theorem retire_fault (i : Instr) (s : State) : (retire i s).fault = s.fault := by
  unfold retire; split <;> rfl
@[simp] theorem retire_events (i : Instr) (s : State) : (retire i s).events = s.events := by
  unfold retire; split <;> rfl
@[simp] theorem retire_schedule (i : Instr) (s : State) : (retire i s).schedule = s.schedule := by
  unfold retire; split <;> rfl

end Sys2Proof.Machine
end

