-- ==== Sys2Proof/Laws/Flags.lean ====
section
/-!
SUPPORT. The status register: what a flag write does to every flag, and what the computations of the ALU are as integers.
-/

namespace Sys2Proof.Machine

/-- A flag write gives that flag the value and leaves the other seven alone. -/
theorem withFlag_getLsbD (f g : Flag) (v : Bool) (st : Byte) :
    (withFlag f v st).getLsbD g.bit = if g = f then v else st.getLsbD g.bit := by
  cases f <;> cases g <;> cases v <;>
    simp [withFlag, orMask, clearMask, Flag.mask, Flag.bit]

@[simp] theorem flag_setFlag (f g : Flag) (v : Bool) (s : State) :
    (s.setFlag f v).flag g = if g = f then v else s.flag g := withFlag_getLsbD f g v s.st

/-- `SetNZ` writes N and Z and no other bit (R25). -/
@[simp] theorem flag_setNZ (g : Flag) (v : Byte) (s : State) :
    (setNZ v s).flag g = if g = .z then v == 0x00 else if g = .n then v.getLsbD 7 else s.flag g := by
  simp only [setNZ, flag_setFlag]

/-- Two status bytes with the same eight flags are the same byte. -/
theorem st_ext {st st' : Byte} (h : ∀ f : Flag, st.getLsbD f.bit = st'.getLsbD f.bit) : st = st' := by
  have h0 := h .c; have h1 := h .z; have h2 := h .i; have h3 := h .d
  have h4 := h .b; have h5 := h .u; have h6 := h .v; have h7 := h .n
  apply BitVec.eq_of_getLsbD_eq
  intro i hi
  interval_cases i <;> assumption

/-- A flag is its bit of ST. -/
theorem flag_of_st {s t : State} (h : t.st = s.st) (g : Flag) : t.flag g = s.flag g := by
  simp only [State.flag, h]

/-- The masked bit of ST is set exactly when the flag is (R200). -/
theorem and_mask_ne_zero (f : Flag) (st : Byte) : (st &&& f.mask ≠ 0x00) ↔ st.getLsbD f.bit = true := by
  revert st
  cases f <;> decide

/-- `set_flag` with a flag's mask sets exactly that flag (R181). -/
@[simp] theorem flag_setMask (f g : Flag) (s : State) :
    (setMask f.mask s).flag g = if g = f then true else s.flag g := flag_setFlag f g true s

/-- `clr_flag` with a flag's mask clears exactly that flag (R181). -/
@[simp] theorem flag_clrMask (f g : Flag) (s : State) :
    (clrMask f.mask s).flag g = if g = f then false else s.flag g := flag_setFlag f g false s

/-- The sum is exact once the carry out is counted as the ninth bit (R152). -/
theorem addWithCarry_exact (a m : Byte) (c : Bool) :
    (addWithCarry a m c).r.toNat + (if (addWithCarry a m c).carry then 256 else 0) = a.toNat + m.toNat + c.toNat := by
  have ha := a.isLt; have hm := m.isLt
  have hc : c.toNat ≤ 1 := by cases c <;> decide
  simp only [addWithCarry, BitVec.toNat_ofNat, decide_eq_true_eq]
  by_cases h : a.toNat + m.toNat + c.toNat > 0xFF
  · rw [if_pos h]; omega
  · rw [if_neg h]; omega

end Sys2Proof.Machine
end

