-- ==== Sys2Proof/Laws/Memory.lean ====
section
/-!
SUPPORT. Byte storage: a write keeps the canonical form, reads back what it wrote and leaves every other address alone.
-/

namespace Sys2Proof.Machine

@[simp] theorem Memory.read_nil (k : Nat) : Memory.read [] k = unlistedByte := rfl

/-- A weaker lower bound admits what a stronger one does. -/
theorem Memory.wfFrom_weaken {lo lo' hi : Nat} {m : Memory} (h : Memory.wfFrom lo hi m = true) (hlo : lo' ≤ lo) :
    Memory.wfFrom lo' hi m = true := by
  cases m with
  | nil => rfl
  | cons c t =>
    obtain ⟨k, v⟩ := c
    simp only [Memory.wfFrom, Bool.and_eq_true, decide_eq_true_eq] at h ⊢
    exact ⟨⟨⟨by omega, h.1.1.2⟩, h.1.2⟩, h.2⟩

/-- An address below every entry reads as unlisted. -/
theorem Memory.read_of_wfFrom_lt {lo hi : Nat} {m : Memory} (h : Memory.wfFrom lo hi m = true) {k : Nat} (hk : k < lo) :
    Memory.read m k = unlistedByte := by
  induction m generalizing lo with
  | nil => rfl
  | cons c t ih =>
    obtain ⟨j, v⟩ := c
    simp only [Memory.wfFrom, Bool.and_eq_true, decide_eq_true_eq] at h
    rw [Memory.read, if_neg (by omega)]
    exact ih h.2 (by omega)

/-- A write inside the bounds keeps the canonical form. -/
theorem Memory.wfFrom_write {lo hi : Nat} {m : Memory} (h : Memory.wfFrom lo hi m = true) {k : Nat} (v : Byte)
    (hlo : lo ≤ k) (hhi : k < hi) : Memory.wfFrom lo hi (Memory.write m k v) = true := by
  induction m generalizing lo with
  | nil =>
    by_cases hv : v = unlistedByte <;> simp [Memory.write, Memory.wfFrom, hv, hlo, hhi]
  | cons c t ih =>
    obtain ⟨j, w⟩ := c
    have h0 := h
    simp only [Memory.wfFrom, Bool.and_eq_true, decide_eq_true_eq] at h
    obtain ⟨⟨⟨h1, h2⟩, h3⟩, h4⟩ := h
    unfold Memory.write
    split
    · split
      · exact h0
      · rename_i hkj hv
        simp only [Memory.wfFrom, Bool.and_eq_true, decide_eq_true_eq]
        exact ⟨⟨⟨hlo, hhi⟩, by simpa using hv⟩, ⟨⟨by omega, h2⟩, h3⟩, h4⟩
    · split
      · rename_i hkj hk
        subst hk
        split
        · exact Memory.wfFrom_weaken h4 (by omega)
        · rename_i hv
          simp only [Memory.wfFrom, Bool.and_eq_true, decide_eq_true_eq]
          exact ⟨⟨⟨h1, h2⟩, by simpa using hv⟩, h4⟩
      · simp only [Memory.wfFrom, Bool.and_eq_true, decide_eq_true_eq]
        exact ⟨⟨⟨h1, h2⟩, h3⟩, ih h4 (by omega)⟩

/-- Every memory operation keeps the canonical form. -/
theorem Memory.wf_write {lo hi : Nat} {m : Memory} (h : Memory.wf lo hi m = true) {k : Nat} (v : Byte)
    (hlo : lo ≤ k) (hhi : k < hi) : Memory.wf lo hi (Memory.write m k v) = true :=
  Memory.wfFrom_write h v hlo hhi

/-- A read after a write to the same address gives the byte written. -/
theorem Memory.read_write_same {lo hi : Nat} {m : Memory} (h : Memory.wfFrom lo hi m = true) (k : Nat) (v : Byte) :
    Memory.read (Memory.write m k v) k = v := by
  induction m generalizing lo with
  | nil => by_cases hv : v = unlistedByte <;> simp [Memory.write, Memory.read, hv]
  | cons c t ih =>
    obtain ⟨j, w⟩ := c
    simp only [Memory.wfFrom, Bool.and_eq_true, decide_eq_true_eq] at h
    obtain ⟨⟨⟨h1, h2⟩, h3⟩, h4⟩ := h
    unfold Memory.write
    split
    · split
      · rename_i hkj hv
        rw [Memory.read, if_neg (by omega), hv]
        exact Memory.read_of_wfFrom_lt h4 (by omega)
      · simp [Memory.read]
    · split
      · rename_i hkj hk
        subst hk
        split
        · rename_i hv
          rw [hv]
          exact Memory.read_of_wfFrom_lt h4 (by omega)
        · simp [Memory.read]
      · rename_i hkj hk
        rw [Memory.read, if_neg (by omega)]
        exact ih h4

/-- A write leaves every other address alone. -/
theorem Memory.read_write_other (m : Memory) {k j : Nat} (v : Byte) (hne : j ≠ k) :
    Memory.read (Memory.write m k v) j = Memory.read m j := by
  induction m with
  | nil => by_cases hv : v = unlistedByte <;> simp [Memory.write, Memory.read, hv]; omega
  | cons c t ih =>
    obtain ⟨i, w⟩ := c
    unfold Memory.write
    split
    · split
      · rfl
      · rw [Memory.read, if_neg (by omega)]
    · split
      · rename_i hki hk
        subst hk
        split
        · rw [Memory.read, if_neg (by omega)]
        · simp only [Memory.read]
          rw [if_neg (by omega), if_neg (by omega)]
      · simp only [Memory.read, ih]

end Sys2Proof.Machine
end

