-- ==== Sys2Proof/Laws/Ops.lean ====
section
/-!
SUPPORT. One lemma per shared operation that says everything it can do: the bus, the register file, pushes and pops,
interrupt entry and return, the resolver and the operand fetch.
-/

namespace Sys2Proof.Machine

/-! ### Bytes and 16-bit values -/

@[simp] theorem hiByte_mkWord (h l : Byte) : hiByte (mkWord h l) = h := by
  apply BitVec.eq_of_getLsbD_eq
  intro i hi
  simp only [hiByte, mkWord, BitVec.getLsbD_extractLsb', BitVec.getLsbD_append]
  simp [hi]

@[simp] theorem loByte_mkWord (h l : Byte) : loByte (mkWord h l) = l := by
  apply BitVec.eq_of_getLsbD_eq
  intro i hi
  simp only [loByte, mkWord, BitVec.getLsbD_extractLsb', BitVec.getLsbD_append]
  simp [hi]

@[simp] theorem mkWord_hiByte_loByte (w : Word) : mkWord (hiByte w) (loByte w) = w := by
  apply BitVec.eq_of_getLsbD_eq
  intro i hi
  simp only [hiByte, loByte, mkWord, BitVec.getLsbD_extractLsb', BitVec.getLsbD_append]
  by_cases h : i < 8
  · simp [h]
  · have h1 : i - 8 < 8 := by omega
    have h2 : 8 + (i - 8) = i := by omega
    simp [h, h1, h2]

theorem mkWord_toNat (h l : Byte) : (mkWord h l).toNat = h.toNat * 256 + l.toNat := by
  have hl := l.isLt
  rw [mkWord, BitVec.toNat_append, Nat.shiftLeft_eq, Nat.or_comm, Nat.mul_comm]
  exact (Nat.or_comm _ _).trans (Nat.two_pow_add_eq_or_of_lt hl h.toNat).symm

/-! ### The register file -/

@[simp] theorem readReg_writeReg_same (r : Reg) (v : Byte) (s : State) : readReg r (writeReg r v s) = v := by
  cases r <;> simp [readReg, writeReg]

/-- A register write leaves every other slot alone (R20: no aliases). -/
theorem readReg_writeReg_other {r q : Reg} (h : q ≠ r) (v : Byte) (s : State) :
    readReg q (writeReg r v s) = readReg q s := by
  cases r <;> cases q <;> simp_all [readReg, writeReg]

/-! ### The bus -/

/-- The routing table as ranges of the address (R51). -/
theorem route_cases (a : Word) :
    (a.toNat < 0x2000 ∧ route a = .ram (a.toNat % 2048)) ∨
    (0x2000 ≤ a.toNat ∧ a.toNat < 0x4000 ∧ route a = .periph (a &&& 0x2007)) ∨
    (0x4000 ≤ a.toNat ∧ a.toNat < 0x4020 ∧ route a = .unmappedIo) ∨
    (0x4020 ≤ a.toNat ∧ a.toNat < 0x8000 ∧ route a = .unmapped) ∨
    (0x8000 ≤ a.toNat ∧ route a = .cart a.toNat) := by
  have hand : (a &&& 0x07FF).toNat = a.toNat % 2048 := by
    rw [BitVec.toNat_and]
    exact Nat.and_two_pow_sub_one_eq_mod a.toNat 11
  have hlt (b : Word) : a < b ↔ a.toNat < b.toNat := Iff.rfl
  unfold route
  simp only [hlt, hand]
  split
  · exact .inl ⟨‹_›, rfl⟩
  · rename_i h1
    split
    · exact .inr (.inl ⟨not_lt.mp h1, ‹_›, rfl⟩)
    · rename_i h2
      split
      · exact .inr (.inr (.inl ⟨not_lt.mp h2, ‹_›, rfl⟩))
      · rename_i h3
        split
        · exact .inr (.inr (.inr (.inl ⟨not_lt.mp h3, ‹_›, rfl⟩)))
        · rename_i h4
          exact .inr (.inr (.inr (.inr ⟨not_lt.mp h4, rfl⟩)))

/-- A target in RAM is one of the 2048 bytes. -/
theorem route_ram_lt {a : Word} {i : Nat} (h : route a = .ram i) : i < 2048 := by
  rcases route_cases a with ⟨_, e⟩ | ⟨_, _, e⟩ | ⟨_, _, e⟩ | ⟨_, _, e⟩ | ⟨_, e⟩ <;> rw [e] at h <;> cases h
  exact Nat.mod_lt _ (by decide)

/-- A target in the cartridge is an address from 0x8000. -/
theorem route_cart_bounds {a : Word} {k : Nat} (h : route a = .cart k) : 0x8000 ≤ k ∧ k < 0x10000 := by
  rcases route_cases a with ⟨_, e⟩ | ⟨_, _, e⟩ | ⟨_, _, e⟩ | ⟨_, _, e⟩ | ⟨hk, e⟩ <;> rw [e] at h <;> cases h
  exact ⟨hk, a.isLt⟩

/-- The stack page is RAM (R62). -/
theorem route_stackAddr (sp : Byte) : route (stackAddr sp) = .ram (256 + sp.toNat) := by
  have hs := sp.isLt
  have ht : (stackAddr sp).toNat = 256 + sp.toNat := by
    rw [stackAddr, mkWord_toNat]; rfl
  rcases route_cases (stackAddr sp) with ⟨_, e⟩ | ⟨h, _⟩ | ⟨h, _⟩ | ⟨h, _⟩ | ⟨h, _⟩
  · rw [e, ht, Nat.mod_eq_of_lt (by omega)]
  all_goals omega

/-- A read changes nothing but the event history (R61). -/
theorem memTouch_eq (a : Word) (s : State) : memTouch a s = { s with events := (memTouch a s).events } := by
  unfold memTouch; split <;> rfl

/-- A read outside the peripheral window changes nothing (R61). -/
theorem memTouch_of_not_periph {a : Word} (h : ∀ reg, route a ≠ .periph reg) (s : State) : memTouch a s = s := by
  unfold memTouch
  split
  · exact absurd ‹_› (h _)
  · rfl

/-- A pointer read changes nothing but the event history (R100). -/
theorem readPtr_state (a : Word) (s : State) : (readPtr a s).2 = { s with events := (readPtr a s).2.events } := by
  simp only [readPtr, memRead]
  rw [memTouch_eq (nextInPage a) (memTouch a s), memTouch_eq a s]

theorem read16_state (a : Word) (s : State) : (read16 a s).2 = { s with events := (read16 a s).2.events } := by
  simp only [read16, memRead]
  rw [memTouch_eq (a + 1) (memTouch a s), memTouch_eq a s]

/-! ### The resolver and the operand fetch -/

/-- The resolver changes nothing but the event history (R100). -/
theorem getAddr_state (mode : Mode) (addr : Word) (off : Byte) (s : State) :
    (getAddr mode addr off s).2 = { s with events := (getAddr mode addr off s).2.events } := by
  cases mode <;> first | rfl | exact readPtr_state _ s

/-- Resolving an operand changes nothing but the event history (R112). -/
theorem ea_state (m : Mem) (s : State) : (ea m s).2 = { s with events := (ea m s).2.events } := by
  cases m <;> exact getAddr_state _ _ _ s

/-- Fetching an operand changes nothing but the event history and the penalty counter (R113). -/
theorem loadOperand_state (src : Src) (s : State) :
    (loadOperand src s).2 =
      { s with events := (loadOperand src s).2.events, penalty := (loadOperand src s).2.penalty } := by
  cases src with
  | imm b1 => rfl
  | mem m =>
    simp only [loadOperand, memRead, State.addPenalty]
    rw [memTouch_eq _ (ea m s).2, ea_state m s]

/-! ### The stack -/

/-- What `Push` can do: fault on the full stack with nothing written, or write below the stack page's entry and decrement
SP (R140). -/
theorem push_cases (opc : Word) (n : Nat) (v : Byte) (s : State) :
    (s.sp = 0x00 ∧ push opc n v s = .error (raise (.stackOverflow 0x00 opc n) s)) ∨
    (s.sp ≠ 0x00 ∧ push opc n v s = .ok { s with sp := s.sp - 1, ram := s.ram.write (256 + s.sp.toNat) v }) := by
  unfold push
  split
  · rename_i h
    exact .inl ⟨h, by rw [h]⟩
  · rename_i h
    exact .inr ⟨h, by simp only [memWrite, route_stackAddr]⟩

/-- What `Pop` can do: fault on the empty stack with nothing read, or increment SP and read (R141). -/
theorem pop_cases (opc : Word) (n : Nat) (s : State) :
    (s.sp = 0xFF ∧ pop opc n s = .error (raise (.stackUnderflow 0xFF opc n) s)) ∨
    (s.sp ≠ 0xFF ∧ pop opc n s = .ok (s.ram.read (256 + (s.sp + 1).toNat), { s with sp := s.sp + 1 })) := by
  unfold pop
  split
  · rename_i h
    exact .inl ⟨h, by rw [h]⟩
  · rename_i h
    exact .inr ⟨h, by simp only [memRead, memPeek, memTouch, route_stackAddr]⟩

theorem push_ok {s : State} (h : s.sp ≠ 0x00) (opc : Word) (n : Nat) (v : Byte) :
    push opc n v s = .ok { s with sp := s.sp - 1, ram := s.ram.write (256 + s.sp.toNat) v } := by
  rcases push_cases opc n v s with ⟨h0, _⟩ | ⟨_, e⟩
  · exact absurd h0 h
  · exact e

theorem pop_ok {s : State} (h : s.sp ≠ 0xFF) (opc : Word) (n : Nat) :
    pop opc n s = .ok (s.ram.read (256 + (s.sp + 1).toNat), { s with sp := s.sp + 1 }) := by
  rcases pop_cases opc n s with ⟨h0, _⟩ | ⟨_, e⟩
  · exact absurd h0 h
  · exact e

end Sys2Proof.Machine
end

