-- ==== Sys2Proof/Laws/Exec.lean ====
section
/-!
SUPPORT. The dispatch by family: an instruction with a given mnemonic and operand runs its family's shared operation.
What reset, interrupt entry and return can do, once.
-/

namespace Sys2Proof.Machine

/-! ### The dispatch, family by family -/

/-- LDA, LDX, LDY in every form (R121 to R123). -/
theorem exec_load {i : Instr} {r : Reg} {src : Src} (hr : (i.op, r) ∈ [(Mnemonic.lda, Reg.a), (.ldx, .x), (.ldy, .y)])
    (hs : i.operand = .src src) (s : State) : exec i s = .next (load r src s) := by
  cases i <;> simp [Instr.op, Instr.operand] at hr hs <;> subst hr <;> subst hs <;> rfl

/-- STA, STX, STY in every form (R124 to R126). -/
theorem exec_store {i : Instr} {r : Reg} {m : Mem} (hr : (i.op, r) ∈ [(Mnemonic.sta, Reg.a), (.stx, .x), (.sty, .y)])
    (hs : i.operand = .src (.mem m)) (s : State) : exec i s = .next (store r m s) := by
  cases i <;> simp [Instr.op, Instr.operand] at hr hs <;> subst hr <;> subst hs <;> rfl

/-- ADC in every form (R152). -/
theorem exec_adc {i : Instr} {src : Src} (ho : i.op = .adc) (hs : i.operand = .src src) (s : State) :
    exec i s = .next (addToA addWithCarry src s) := by
  cases i <;> cases ho <;> cases hs <;> rfl

/-- SBC in every form (R153). -/
theorem exec_sbc {i : Instr} {src : Src} (ho : i.op = .sbc) (hs : i.operand = .src src) (s : State) :
    exec i s = .next (addToA subWithBorrow src s) := by
  cases i <;> cases ho <;> cases hs <;> rfl

/-- AND in every form (R154). -/
theorem exec_and {i : Instr} {src : Src} (ho : i.op = .and) (hs : i.operand = .src src) (s : State) :
    exec i s = .next (logic (fun a v => a &&& v) src s) := by
  cases i <;> cases ho <;> cases hs <;> rfl

/-- EOR in every form (R155). -/
theorem exec_eor {i : Instr} {src : Src} (ho : i.op = .eor) (hs : i.operand = .src src) (s : State) :
    exec i s = .next (logic (fun a v => a ^^^ v) src s) := by
  cases i <;> cases ho <;> cases hs <;> rfl

/-- ORA in every form (R156). -/
theorem exec_ora {i : Instr} {src : Src} (ho : i.op = .ora) (hs : i.operand = .src src) (s : State) :
    exec i s = .next (logic (fun a v => a ||| v) src s) := by
  cases i <;> cases ho <;> cases hs <;> rfl

/-- CMP, CPX, CPY in every form (R158 to R160). -/
theorem exec_compare {i : Instr} {r : Reg} {src : Src}
    (hr : (i.op, r) ∈ [(Mnemonic.cmp, Reg.a), (.cpx, .x), (.cpy, .y)])
    (hs : i.operand = .src src) (s : State) : exec i s = .next (compareReg r src s) := by
  cases i <;> simp [Instr.op, Instr.operand] at hr hs <;> subst hr <;> subst hs <;> rfl

/-- BIT in both forms (R161). -/
theorem exec_bit {i : Instr} {src : Src} (ho : i.op = .bit) (hs : i.operand = .src src) (s : State) :
    exec i s = .next (bitTest src s) := by
  cases i <;> cases ho <;> cases hs <;> rfl

/-- The byte operation of a shift or rotate (R171 to R174). -/
def shiftOp : Mnemonic → Option (Byte → Bool → Byte × Bool)
  | .asl => some aslOp
  | .lsr => some lsrOp
  | .rol => some rolOp
  | .ror => some rorOp
  | _ => none

/-- ASL, LSR, ROL, ROR of the accumulator (R170). -/
theorem exec_shiftA {i : Instr} {f : Byte → Bool → Byte × Bool} (ho : shiftOp i.op = some f) (hs : i.operand = .acc)
    (s : State) : exec i s = .next (shiftA f s) := by
  cases i <;> cases ho <;> cases hs <;> rfl

/-- ASL, LSR, ROL, ROR of memory (R170). -/
theorem exec_shiftMem {i : Instr} {f : Byte → Bool → Byte × Bool} {m : Mem} (ho : shiftOp i.op = some f)
    (hs : i.operand = .src (.mem m)) (s : State) : exec i s = .next (shiftMem f m s) := by
  cases i <;> cases ho <;> cases hs <;> rfl

/-- INC in every form (R175). -/
theorem exec_inc {i : Instr} {m : Mem} (ho : i.op = .inc) (hs : i.operand = .src (.mem m)) (s : State) :
    exec i s = .next (stepMem (fun v => v + 1) m s) := by
  cases i <;> cases ho <;> cases hs <;> rfl

/-- DEC in every form (R176). -/
theorem exec_dec {i : Instr} {m : Mem} (ho : i.op = .dec) (hs : i.operand = .src (.mem m)) (s : State) :
    exec i s = .next (stepMem (fun v => v - 1) m s) := by
  cases i <;> cases ho <;> cases hs <;> rfl

/-- What each mnemonic runs on its operand: the dispatch with the forms of a mnemonic taken together, so that a proof over
all instructions has a case per mnemonic (R234). -/
inductive Runs : Mnemonic → Operand → (State → Result) → Prop where
  | lda (src : Src) : Runs .lda (.src src) fun s => .next (load .a src s)
  | ldx (src : Src) : Runs .ldx (.src src) fun s => .next (load .x src s)
  | ldy (src : Src) : Runs .ldy (.src src) fun s => .next (load .y src s)
  | sta (m : Mem) : Runs .sta (.src (.mem m)) fun s => .next (store .a m s)
  | stx (m : Mem) : Runs .stx (.src (.mem m)) fun s => .next (store .x m s)
  | sty (m : Mem) : Runs .sty (.src (.mem m)) fun s => .next (store .y m s)
  | tax : Runs .tax (.imp) fun s => .next (transfer .x .a s)
  | tay : Runs .tay (.imp) fun s => .next (transfer .y .a s)
  | txa : Runs .txa (.imp) fun s => .next (transfer .a .x s)
  | tya : Runs .tya (.imp) fun s => .next (transfer .a .y s)
  | tsx : Runs .tsx (.imp) fun s => .next (transfer .x .sp s)
  | txs : Runs .txs (.imp) fun s => .next (transfer .sp .x s)
  | pha : Runs .pha (.imp) fun s => settle (pushA s)
  | php : Runs .php (.imp) fun s => settle (pushStatus s)
  | pla : Runs .pla (.imp) fun s => settle (pullA s)
  | plp : Runs .plp (.imp) fun s => settle (pullStatus s)
  | adc (src : Src) : Runs .adc (.src src) fun s => .next (addToA addWithCarry src s)
  | sbc (src : Src) : Runs .sbc (.src src) fun s => .next (addToA subWithBorrow src s)
  | and (src : Src) : Runs .and (.src src) fun s => .next (logic (fun a v => a &&& v) src s)
  | eor (src : Src) : Runs .eor (.src src) fun s => .next (logic (fun a v => a ^^^ v) src s)
  | ora (src : Src) : Runs .ora (.src src) fun s => .next (logic (fun a v => a ||| v) src s)
  | cmp (src : Src) : Runs .cmp (.src src) fun s => .next (compareReg .a src s)
  | cpx (src : Src) : Runs .cpx (.src src) fun s => .next (compareReg .x src s)
  | cpy (src : Src) : Runs .cpy (.src src) fun s => .next (compareReg .y src s)
  | bit (src : Src) : Runs .bit (.src src) fun s => .next (bitTest src s)
  | aslA : Runs .asl .acc fun s => .next (shiftA aslOp s)
  | asl (m : Mem) : Runs .asl (.src (.mem m)) fun s => .next (shiftMem aslOp m s)
  | lsrA : Runs .lsr .acc fun s => .next (shiftA lsrOp s)
  | lsr (m : Mem) : Runs .lsr (.src (.mem m)) fun s => .next (shiftMem lsrOp m s)
  | rolA : Runs .rol .acc fun s => .next (shiftA rolOp s)
  | rol (m : Mem) : Runs .rol (.src (.mem m)) fun s => .next (shiftMem rolOp m s)
  | rorA : Runs .ror .acc fun s => .next (shiftA rorOp s)
  | ror (m : Mem) : Runs .ror (.src (.mem m)) fun s => .next (shiftMem rorOp m s)
  | inc (m : Mem) : Runs .inc (.src (.mem m)) fun s => .next (stepMem (fun v => v + 1) m s)
  | dec (m : Mem) : Runs .dec (.src (.mem m)) fun s => .next (stepMem (fun v => v - 1) m s)
  | inx : Runs .inx (.imp) fun s => .next (stepReg (fun v => v + 1) .x s)
  | iny : Runs .iny (.imp) fun s => .next (stepReg (fun v => v + 1) .y s)
  | dex : Runs .dex (.imp) fun s => .next (stepReg (fun v => v - 1) .x s)
  | dey : Runs .dey (.imp) fun s => .next (stepReg (fun v => v - 1) .y s)
  | sec : Runs .sec (.imp) fun s => .next (setMask (Flag.mask .c) s)
  | clc : Runs .clc (.imp) fun s => .next (clrMask (Flag.mask .c) s)
  | sei : Runs .sei (.imp) fun s => .next (setMask (Flag.mask .i) s)
  | cli : Runs .cli (.imp) fun s => .next (clrMask (Flag.mask .i) s)
  | sed : Runs .sed (.imp) fun s => .next (setMask (Flag.mask .d) s)
  | cld : Runs .cld (.imp) fun s => .next (clrMask (Flag.mask .d) s)
  | clv : Runs .clv (.imp) fun s => .next (clrMask (Flag.mask .v) s)
  | nop : Runs .nop (.imp) fun s => .next s
  | bcc (b1 : Byte) : Runs .bcc (.rel b1) fun s => .next (brcRst (Flag.mask .c) b1 s)
  | bcs (b1 : Byte) : Runs .bcs (.rel b1) fun s => .next (brcSet (Flag.mask .c) b1 s)
  | beq (b1 : Byte) : Runs .beq (.rel b1) fun s => .next (brcSet (Flag.mask .z) b1 s)
  | bne (b1 : Byte) : Runs .bne (.rel b1) fun s => .next (brcRst (Flag.mask .z) b1 s)
  | bmi (b1 : Byte) : Runs .bmi (.rel b1) fun s => .next (brcSet (Flag.mask .n) b1 s)
  | bpl (b1 : Byte) : Runs .bpl (.rel b1) fun s => .next (brcRst (Flag.mask .n) b1 s)
  | bvc (b1 : Byte) : Runs .bvc (.rel b1) fun s => .next (brcRst (Flag.mask .v) b1 s)
  | bvs (b1 : Byte) : Runs .bvs (.rel b1) fun s => .next (brcSet (Flag.mask .v) b1 s)
  | jmp (m : Mem) : Runs .jmp (.src (.mem m)) fun s => .next (jump m s)
  | jsr (b1 b2 : Byte) : Runs .jsr (.src (.mem (.abs b1 b2))) fun s => settle (callSub b1 b2 s)
  | rts : Runs .rts (.imp) fun s => settle (returnSub s)
  | brk : Runs .brk (.imp) fun s => settle (softInterrupt s)
  | rti : Runs .rti (.imp) fun s => settle (interruptReturn s)

/-- Every instruction runs as its mnemonic and operand say (R234). -/
theorem exec_runs (i : Instr) : Runs i.op i.operand (exec i) := by
  cases i <;> constructor

/-! ### Reset and interrupts -/

/-- A vector lies in the cartridge, so reading it touches nothing (R63). -/
theorem read16_cart {a : Word} (h : 0x8000 ≤ a.toNat) (h1 : a.toNat < 0xFFFF) (s : State) :
    read16 a s = (mkWord (s.rom.read (a.toNat + 1)) (s.rom.read a.toNat), s) := by
  have e1 : (a + 1).toNat = a.toNat + 1 := by rw [BitVec.toNat_add]; simp; omega
  have r0 : route a = .cart a.toNat := by
    rcases route_cases a with ⟨_, _⟩ | ⟨_, _, _⟩ | ⟨_, _, _⟩ | ⟨_, _, _⟩ | ⟨_, e⟩ <;> first | exact e | omega
  have r1 : route (a + 1) = .cart (a.toNat + 1) := by
    rcases route_cases (a + 1) with ⟨_, _⟩ | ⟨_, _, _⟩ | ⟨_, _, _⟩ | ⟨_, _, _⟩ | ⟨_, e⟩ <;>
      first | (rw [e, e1]) | omega
  simp only [read16, memRead, memPeek, memTouch, r0, r1]

/-- Everything `Rst` does (R266). -/
theorem rst_eq (s : State) : rst s =
    { s with a := 0x00, x := 0x00, y := 0x00, st := 0x00, sp := 0xFF, fault := none, cyclesLeft := 0, penalty := 0,
             pc := mkWord (s.rom.read 0xFFFD) (s.rom.read 0xFFFC), ctl := .run } := rfl

/-- An interrupt entry with room for its three bytes (R261). -/
theorem intEntry_ok {s : State} (h : 3 ≤ s.sp.toNat) (opc vector : Word) (brk : Bool) (hv : 0x8000 ≤ vector.toNat)
    (hv1 : vector.toNat < 0xFFFF) : intEntry opc vector brk s = .ok
      { s with sp := s.sp - 3,
               ram := ((s.ram.write (256 + s.sp.toNat) (hiByte s.pc)).write (256 + (s.sp - 1).toNat) (loByte s.pc)).write
                 (256 + (s.sp - 2).toNat) (pushedStatus brk s.st),
               st := withFlag .i true s.st,
               pc := mkWord (s.rom.read (vector.toNat + 1)) (s.rom.read vector.toNat) } := by
  have h0 : s.sp ≠ 0x00 := by intro e; rw [e] at h; exact absurd h (by decide)
  have h1 : s.sp - 1 ≠ 0x00 := by bv_omega
  have h2 : s.sp - 1 - 1 ≠ 0x00 := by bv_omega
  have e2 : s.sp - 1 - 1 = s.sp - 2 := by bv_omega
  have e3 : s.sp - 2 - 1 = s.sp - 3 := by bv_omega
  simp only [intEntry, push_ok h0, Except.bind, push_ok (s := { s with sp := s.sp - 1, ram := _ }) h1]
  rw [push_ok (s := { s with sp := s.sp - 1 - 1, ram := _ }) h2]
  simp only [read16_cart hv hv1, e2, e3]
  rfl

/-- A return from an interrupt with three bytes on the stack (R213). -/
theorem intReturn_ok {s : State} (h : s.sp.toNat ≤ 0xFC) (opc : Word) : intReturn opc s = .ok
    { s with sp := s.sp + 3, st := s.ram.read (256 + s.sp.toNat + 1),
             pc := mkWord (s.ram.read (256 + s.sp.toNat + 3)) (s.ram.read (256 + s.sp.toNat + 2)) } := by
  have h0 : s.sp ≠ 0xFF := by bv_omega
  have h1 : s.sp + 1 ≠ 0xFF := by bv_omega
  have h2 : s.sp + 1 + 1 ≠ 0xFF := by bv_omega
  have n1 : (s.sp + 1).toNat = s.sp.toNat + 1 := by bv_omega
  have n2 : (s.sp + 1 + 1).toNat = s.sp.toNat + 2 := by bv_omega
  have n3 : (s.sp + 3).toNat = s.sp.toNat + 3 := by bv_omega
  have e3 : s.sp + 1 + 1 + 1 = s.sp + 3 := by bv_omega
  simp only [intReturn, pop_ok h0, Except.bind, writeReg]
  rw [pop_ok (s := { s with sp := s.sp + 1, st := _ }) h1]
  dsimp only
  rw [pop_ok (s := { s with sp := s.sp + 1 + 1, st := _ }) h2]
  simp only [n1, n2, n3, e3, Nat.add_assoc]
  rfl

end Sys2Proof.Machine
end

