-- ==== Sys2Proof/Laws/Access.lean ====
section
/-!
SUPPORT. The fields after a bus read, an operand fetch or a bus write, one lemma per field; then what these operations do in
the terms claims are stated in.
-/

namespace Sys2Proof.Machine

/-! ### Fields -/

@[simp] theorem ea_a (m : Mem) (s : State) : (ea m s).2.a = s.a := by rw [ea_state m s]
@[simp] theorem ea_x (m : Mem) (s : State) : (ea m s).2.x = s.x := by rw [ea_state m s]
@[simp] theorem ea_y (m : Mem) (s : State) : (ea m s).2.y = s.y := by rw [ea_state m s]
@[simp] theorem ea_st (m : Mem) (s : State) : (ea m s).2.st = s.st := by rw [ea_state m s]
@[simp] theorem ea_sp (m : Mem) (s : State) : (ea m s).2.sp = s.sp := by rw [ea_state m s]
@[simp] theorem ea_pc (m : Mem) (s : State) : (ea m s).2.pc = s.pc := by rw [ea_state m s]
@[simp] theorem ea_ram (m : Mem) (s : State) : (ea m s).2.ram = s.ram := by rw [ea_state m s]
@[simp] theorem ea_rom (m : Mem) (s : State) : (ea m s).2.rom = s.rom := by rw [ea_state m s]
@[simp] theorem ea_ctl (m : Mem) (s : State) : (ea m s).2.ctl = s.ctl := by rw [ea_state m s]
@[simp] theorem ea_fault (m : Mem) (s : State) : (ea m s).2.fault = s.fault := by rw [ea_state m s]
@[simp] theorem ea_cyclesLeft (m : Mem) (s : State) : (ea m s).2.cyclesLeft = s.cyclesLeft := by rw [ea_state m s]
@[simp] theorem ea_penalty (m : Mem) (s : State) : (ea m s).2.penalty = s.penalty := by rw [ea_state m s]
@[simp] theorem ea_schedule (m : Mem) (s : State) : (ea m s).2.schedule = s.schedule := by rw [ea_state m s]

@[simp] theorem loadOperand_a (src : Src) (s : State) : (loadOperand src s).2.a = s.a := by rw [loadOperand_state src s]
@[simp] theorem loadOperand_x (src : Src) (s : State) : (loadOperand src s).2.x = s.x := by rw [loadOperand_state src s]
@[simp] theorem loadOperand_y (src : Src) (s : State) : (loadOperand src s).2.y = s.y := by rw [loadOperand_state src s]
@[simp] theorem loadOperand_st (src : Src) (s : State) : (loadOperand src s).2.st = s.st := by rw [loadOperand_state src s]
@[simp] theorem loadOperand_sp (src : Src) (s : State) : (loadOperand src s).2.sp = s.sp := by rw [loadOperand_state src s]
@[simp] theorem loadOperand_pc (src : Src) (s : State) : (loadOperand src s).2.pc = s.pc := by rw [loadOperand_state src s]
@[simp] theorem loadOperand_ram (src : Src) (s : State) : (loadOperand src s).2.ram = s.ram := by rw [loadOperand_state src s]
@[simp] theorem loadOperand_rom (src : Src) (s : State) : (loadOperand src s).2.rom = s.rom := by rw [loadOperand_state src s]
@[simp] theorem loadOperand_ctl (src : Src) (s : State) : (loadOperand src s).2.ctl = s.ctl := by rw [loadOperand_state src s]
@[simp] theorem loadOperand_fault (src : Src) (s : State) : (loadOperand src s).2.fault = s.fault := by rw [loadOperand_state src s]
@[simp] theorem loadOperand_cyclesLeft (src : Src) (s : State) : (loadOperand src s).2.cyclesLeft = s.cyclesLeft := by rw [loadOperand_state src s]
@[simp] theorem loadOperand_schedule (src : Src) (s : State) : (loadOperand src s).2.schedule = s.schedule := by rw [loadOperand_state src s]


@[simp] theorem memTouch_flag (a : Word) (s : State) (f : Flag) : (memTouch a s).flag f = s.flag f :=
  flag_of_st (memTouch_st a s) f
@[simp] theorem ea_flag (m : Mem) (s : State) (f : Flag) : (ea m s).2.flag f = s.flag f := flag_of_st (ea_st m s) f
@[simp] theorem loadOperand_flag (src : Src) (s : State) (f : Flag) : (loadOperand src s).2.flag f = s.flag f :=
  flag_of_st (loadOperand_st src s) f
@[simp] theorem memWrite_flag (a : Word) (v : Byte) (s : State) (f : Flag) : (memWrite a v s).flag f = s.flag f :=
  flag_of_st (memWrite_st a v s) f
@[simp] theorem flag_writeReg {r : Reg} (h : r ≠ .st) (v : Byte) (s : State) (f : Flag) :
    (writeReg r v s).flag f = s.flag f := by
  cases r <;> first | rfl | exact absurd rfl h

@[simp] theorem readReg_setNZ {r : Reg} (h : r ≠ .st) (v : Byte) (s : State) : readReg r (setNZ v s) = readReg r s := by
  cases r <;> first | rfl | exact absurd rfl h
@[simp] theorem readReg_setFlag {r : Reg} (h : r ≠ .st) (f : Flag) (v : Bool) (s : State) :
    readReg r (s.setFlag f v) = readReg r s := by
  cases r <;> first | rfl | exact absurd rfl h
@[simp] theorem readReg_ea (r : Reg) (m : Mem) (s : State) : readReg r (ea m s).2 = readReg r s := by
  cases r <;> simp [readReg]
@[simp] theorem readReg_memTouch (r : Reg) (a : Word) (s : State) : readReg r (memTouch a s) = readReg r s := by
  cases r <;> simp [readReg]
@[simp] theorem readReg_loadOperand (r : Reg) (src : Src) (s : State) :
    readReg r (loadOperand src s).2 = readReg r s := by
  cases r <;> simp [readReg]
@[simp] theorem readReg_memWrite (r : Reg) (a : Word) (v : Byte) (s : State) :
    readReg r (memWrite a v s) = readReg r s := by
  cases r <;> simp [readReg]

/-! ### In the terms of claims -/

/-- What a read returns where storage decides it depends on RAM and cartridge only (R51). -/
theorem storedByte_congr {s t : State} (hram : t.ram = s.ram) (hrom : t.rom = s.rom) (a : Word) :
    storedByte a t = storedByte a s := by
  unfold storedByte memPeek
  cases route a <;> simp [hram, hrom]

/-- Memory is the same where both storages are. -/
theorem sameMemory_of {s t : State} (hram : t.ram = s.ram) (hrom : t.rom = s.rom) : SameMemory s t :=
  ⟨hram, hrom, storedByte_congr hram hrom⟩

theorem SameMemory.trans {s t u : State} (h : SameMemory s t) (h' : SameMemory t u) : SameMemory s u :=
  sameMemory_of (h'.1.trans h.1) (h'.2.1.trans h.2.1)

/-- Everything one bus write does (R52). -/
theorem memWrite_wrote {s : State} (h : s.ramWf = true) (a : Word) (v : Byte) : Wrote a v s (memWrite a v s) := by
  unfold Wrote memWrite
  cases hr : route a with
  | ram i =>
    refine ⟨fun b hb => ?_, ?_, rfl⟩
    · unfold storedByte memPeek
      cases hb' : route b with
      | ram j =>
        have hne : j ≠ i := fun e => hb (by rw [hb', e])
        simp only [Memory.read_write_other _ _ hne]
      | _ => rfl
    · simp only [storedByte, memPeek, hr, Memory.read_write_same h]
  | periph reg => exact ⟨fun b _ => by dsimp only; apply storedByte_congr <;> rfl, sameMemory_of rfl rfl, rfl⟩
  | _ => exact ⟨fun b _ => rfl, sameMemory_of rfl rfl, rfl⟩

/-- What one write did is still so after changes outside memory and trace. -/
theorem Wrote.of_eq {a : Word} {v : Byte} {s t t' : State} (h : Wrote a v s t) (hram : t'.ram = t.ram)
    (hrom : t'.rom = t.rom) (hev : t'.events = t.events) : Wrote a v s t' := by
  unfold Wrote at h ⊢
  refine ⟨fun b hb => (storedByte_congr hram hrom b).trans (h.1 b hb), ?_⟩
  have h2 := h.2
  cases hr : route a <;> simp only [hr] at h2 ⊢
  · exact ⟨(storedByte_congr hram hrom a).trans h2.1, hev.trans h2.2⟩
  all_goals exact ⟨h2.1.trans (sameMemory_of hram hrom), hev.trans h2.2⟩

end Sys2Proof.Machine
end

