-- ==== Sys2Proof/Laws/PerInstr.lean ====
section
/-!
SUPPORT. The per-instruction family Shape: each instruction is well-formed and its encoding has the length of its form
(spec/30_encoding.md R80, R81, R85, R87).
-/

namespace Sys2Proof.Laws.Shape

/-- The instruction pairs its mnemonic with a form that exists, and its bytes are as many as the form's format has. -/
def Statement (i : Instr) : Prop := i.wellFormed = true ∧ (encode i).length = i.length

theorem adcImm (b1 : Byte) : Statement (.adcImm b1) := ⟨rfl, rfl⟩
theorem adcZer (b1 : Byte) : Statement (.adcZer b1) := ⟨rfl, rfl⟩
theorem adcZex (b1 : Byte) : Statement (.adcZex b1) := ⟨rfl, rfl⟩
theorem adcAbs (b1 b2 : Byte) : Statement (.adcAbs b1 b2) := ⟨rfl, rfl⟩
theorem adcAbx (b1 b2 : Byte) : Statement (.adcAbx b1 b2) := ⟨rfl, rfl⟩
theorem adcAby (b1 b2 : Byte) : Statement (.adcAby b1 b2) := ⟨rfl, rfl⟩
theorem adcIxi (b1 : Byte) : Statement (.adcIxi b1) := ⟨rfl, rfl⟩
theorem adcIix (b1 : Byte) : Statement (.adcIix b1) := ⟨rfl, rfl⟩
theorem andImm (b1 : Byte) : Statement (.andImm b1) := ⟨rfl, rfl⟩
theorem andZer (b1 : Byte) : Statement (.andZer b1) := ⟨rfl, rfl⟩
theorem andZex (b1 : Byte) : Statement (.andZex b1) := ⟨rfl, rfl⟩
theorem andAbs (b1 b2 : Byte) : Statement (.andAbs b1 b2) := ⟨rfl, rfl⟩
theorem andAbx (b1 b2 : Byte) : Statement (.andAbx b1 b2) := ⟨rfl, rfl⟩
theorem andAby (b1 b2 : Byte) : Statement (.andAby b1 b2) := ⟨rfl, rfl⟩
theorem andIxi (b1 : Byte) : Statement (.andIxi b1) := ⟨rfl, rfl⟩
theorem andIix (b1 : Byte) : Statement (.andIix b1) := ⟨rfl, rfl⟩
theorem aslAcc : Statement (.aslAcc) := ⟨rfl, rfl⟩
theorem aslZer (b1 : Byte) : Statement (.aslZer b1) := ⟨rfl, rfl⟩
theorem aslZex (b1 : Byte) : Statement (.aslZex b1) := ⟨rfl, rfl⟩
theorem aslAbs (b1 b2 : Byte) : Statement (.aslAbs b1 b2) := ⟨rfl, rfl⟩
theorem aslAbx (b1 b2 : Byte) : Statement (.aslAbx b1 b2) := ⟨rfl, rfl⟩
theorem bcc (b1 : Byte) : Statement (.bcc b1) := ⟨rfl, rfl⟩
theorem bcs (b1 : Byte) : Statement (.bcs b1) := ⟨rfl, rfl⟩
theorem beq (b1 : Byte) : Statement (.beq b1) := ⟨rfl, rfl⟩
theorem bitZer (b1 : Byte) : Statement (.bitZer b1) := ⟨rfl, rfl⟩
theorem bitAbs (b1 b2 : Byte) : Statement (.bitAbs b1 b2) := ⟨rfl, rfl⟩
theorem bmi (b1 : Byte) : Statement (.bmi b1) := ⟨rfl, rfl⟩
theorem bne (b1 : Byte) : Statement (.bne b1) := ⟨rfl, rfl⟩
theorem bpl (b1 : Byte) : Statement (.bpl b1) := ⟨rfl, rfl⟩
theorem brk : Statement (.brk) := ⟨rfl, rfl⟩
theorem bvc (b1 : Byte) : Statement (.bvc b1) := ⟨rfl, rfl⟩
theorem bvs (b1 : Byte) : Statement (.bvs b1) := ⟨rfl, rfl⟩
theorem clc : Statement (.clc) := ⟨rfl, rfl⟩
theorem cld : Statement (.cld) := ⟨rfl, rfl⟩
theorem cli : Statement (.cli) := ⟨rfl, rfl⟩
theorem clv : Statement (.clv) := ⟨rfl, rfl⟩
theorem cmpImm (b1 : Byte) : Statement (.cmpImm b1) := ⟨rfl, rfl⟩
theorem cmpZer (b1 : Byte) : Statement (.cmpZer b1) := ⟨rfl, rfl⟩
theorem cmpZex (b1 : Byte) : Statement (.cmpZex b1) := ⟨rfl, rfl⟩
theorem cmpAbs (b1 b2 : Byte) : Statement (.cmpAbs b1 b2) := ⟨rfl, rfl⟩
theorem cmpAbx (b1 b2 : Byte) : Statement (.cmpAbx b1 b2) := ⟨rfl, rfl⟩
theorem cmpAby (b1 b2 : Byte) : Statement (.cmpAby b1 b2) := ⟨rfl, rfl⟩
theorem cmpIxi (b1 : Byte) : Statement (.cmpIxi b1) := ⟨rfl, rfl⟩
theorem cmpIix (b1 : Byte) : Statement (.cmpIix b1) := ⟨rfl, rfl⟩
theorem cpxImm (b1 : Byte) : Statement (.cpxImm b1) := ⟨rfl, rfl⟩
theorem cpxZer (b1 : Byte) : Statement (.cpxZer b1) := ⟨rfl, rfl⟩
theorem cpxAbs (b1 b2 : Byte) : Statement (.cpxAbs b1 b2) := ⟨rfl, rfl⟩
theorem cpyImm (b1 : Byte) : Statement (.cpyImm b1) := ⟨rfl, rfl⟩
theorem cpyZer (b1 : Byte) : Statement (.cpyZer b1) := ⟨rfl, rfl⟩
theorem cpyAbs (b1 b2 : Byte) : Statement (.cpyAbs b1 b2) := ⟨rfl, rfl⟩
theorem decZer (b1 : Byte) : Statement (.decZer b1) := ⟨rfl, rfl⟩
theorem decZex (b1 : Byte) : Statement (.decZex b1) := ⟨rfl, rfl⟩
theorem decAbs (b1 b2 : Byte) : Statement (.decAbs b1 b2) := ⟨rfl, rfl⟩
theorem decAbx (b1 b2 : Byte) : Statement (.decAbx b1 b2) := ⟨rfl, rfl⟩
theorem dex : Statement (.dex) := ⟨rfl, rfl⟩
theorem dey : Statement (.dey) := ⟨rfl, rfl⟩
theorem eorImm (b1 : Byte) : Statement (.eorImm b1) := ⟨rfl, rfl⟩
theorem eorZer (b1 : Byte) : Statement (.eorZer b1) := ⟨rfl, rfl⟩
theorem eorZex (b1 : Byte) : Statement (.eorZex b1) := ⟨rfl, rfl⟩
theorem eorAbs (b1 b2 : Byte) : Statement (.eorAbs b1 b2) := ⟨rfl, rfl⟩
theorem eorAbx (b1 b2 : Byte) : Statement (.eorAbx b1 b2) := ⟨rfl, rfl⟩
theorem eorAby (b1 b2 : Byte) : Statement (.eorAby b1 b2) := ⟨rfl, rfl⟩
theorem eorIxi (b1 : Byte) : Statement (.eorIxi b1) := ⟨rfl, rfl⟩
theorem eorIix (b1 : Byte) : Statement (.eorIix b1) := ⟨rfl, rfl⟩
theorem incZer (b1 : Byte) : Statement (.incZer b1) := ⟨rfl, rfl⟩
theorem incZex (b1 : Byte) : Statement (.incZex b1) := ⟨rfl, rfl⟩
theorem incAbs (b1 b2 : Byte) : Statement (.incAbs b1 b2) := ⟨rfl, rfl⟩
theorem incAbx (b1 b2 : Byte) : Statement (.incAbx b1 b2) := ⟨rfl, rfl⟩
theorem inx : Statement (.inx) := ⟨rfl, rfl⟩
theorem iny : Statement (.iny) := ⟨rfl, rfl⟩
theorem jmpAbs (b1 b2 : Byte) : Statement (.jmpAbs b1 b2) := ⟨rfl, rfl⟩
theorem jmpInd (b1 b2 : Byte) : Statement (.jmpInd b1 b2) := ⟨rfl, rfl⟩
theorem jsr (b1 b2 : Byte) : Statement (.jsr b1 b2) := ⟨rfl, rfl⟩
theorem ldaImm (b1 : Byte) : Statement (.ldaImm b1) := ⟨rfl, rfl⟩
theorem ldaZer (b1 : Byte) : Statement (.ldaZer b1) := ⟨rfl, rfl⟩
theorem ldaZex (b1 : Byte) : Statement (.ldaZex b1) := ⟨rfl, rfl⟩
theorem ldaAbs (b1 b2 : Byte) : Statement (.ldaAbs b1 b2) := ⟨rfl, rfl⟩
theorem ldaAbx (b1 b2 : Byte) : Statement (.ldaAbx b1 b2) := ⟨rfl, rfl⟩
theorem ldaAby (b1 b2 : Byte) : Statement (.ldaAby b1 b2) := ⟨rfl, rfl⟩
theorem ldaIxi (b1 : Byte) : Statement (.ldaIxi b1) := ⟨rfl, rfl⟩
theorem ldaIix (b1 : Byte) : Statement (.ldaIix b1) := ⟨rfl, rfl⟩
theorem ldxImm (b1 : Byte) : Statement (.ldxImm b1) := ⟨rfl, rfl⟩
theorem ldxZer (b1 : Byte) : Statement (.ldxZer b1) := ⟨rfl, rfl⟩
theorem ldxZey (b1 : Byte) : Statement (.ldxZey b1) := ⟨rfl, rfl⟩
theorem ldxAbs (b1 b2 : Byte) : Statement (.ldxAbs b1 b2) := ⟨rfl, rfl⟩
theorem ldxAby (b1 b2 : Byte) : Statement (.ldxAby b1 b2) := ⟨rfl, rfl⟩
theorem ldyImm (b1 : Byte) : Statement (.ldyImm b1) := ⟨rfl, rfl⟩
theorem ldyZer (b1 : Byte) : Statement (.ldyZer b1) := ⟨rfl, rfl⟩
theorem ldyZex (b1 : Byte) : Statement (.ldyZex b1) := ⟨rfl, rfl⟩
theorem ldyAbs (b1 b2 : Byte) : Statement (.ldyAbs b1 b2) := ⟨rfl, rfl⟩
theorem ldyAbx (b1 b2 : Byte) : Statement (.ldyAbx b1 b2) := ⟨rfl, rfl⟩
theorem lsrAcc : Statement (.lsrAcc) := ⟨rfl, rfl⟩
theorem lsrZer (b1 : Byte) : Statement (.lsrZer b1) := ⟨rfl, rfl⟩
theorem lsrZex (b1 : Byte) : Statement (.lsrZex b1) := ⟨rfl, rfl⟩
theorem lsrAbs (b1 b2 : Byte) : Statement (.lsrAbs b1 b2) := ⟨rfl, rfl⟩
theorem lsrAbx (b1 b2 : Byte) : Statement (.lsrAbx b1 b2) := ⟨rfl, rfl⟩
theorem nop : Statement (.nop) := ⟨rfl, rfl⟩
theorem oraImm (b1 : Byte) : Statement (.oraImm b1) := ⟨rfl, rfl⟩
theorem oraZer (b1 : Byte) : Statement (.oraZer b1) := ⟨rfl, rfl⟩
theorem oraZex (b1 : Byte) : Statement (.oraZex b1) := ⟨rfl, rfl⟩
theorem oraAbs (b1 b2 : Byte) : Statement (.oraAbs b1 b2) := ⟨rfl, rfl⟩
theorem oraAbx (b1 b2 : Byte) : Statement (.oraAbx b1 b2) := ⟨rfl, rfl⟩
theorem oraAby (b1 b2 : Byte) : Statement (.oraAby b1 b2) := ⟨rfl, rfl⟩
theorem oraIxi (b1 : Byte) : Statement (.oraIxi b1) := ⟨rfl, rfl⟩
theorem oraIix (b1 : Byte) : Statement (.oraIix b1) := ⟨rfl, rfl⟩
theorem pha : Statement (.pha) := ⟨rfl, rfl⟩
theorem php : Statement (.php) := ⟨rfl, rfl⟩
theorem pla : Statement (.pla) := ⟨rfl, rfl⟩
theorem plp : Statement (.plp) := ⟨rfl, rfl⟩
theorem rolAcc : Statement (.rolAcc) := ⟨rfl, rfl⟩
theorem rolZer (b1 : Byte) : Statement (.rolZer b1) := ⟨rfl, rfl⟩
theorem rolZex (b1 : Byte) : Statement (.rolZex b1) := ⟨rfl, rfl⟩
theorem rolAbs (b1 b2 : Byte) : Statement (.rolAbs b1 b2) := ⟨rfl, rfl⟩
theorem rolAbx (b1 b2 : Byte) : Statement (.rolAbx b1 b2) := ⟨rfl, rfl⟩
theorem rorAcc : Statement (.rorAcc) := ⟨rfl, rfl⟩
theorem rorZer (b1 : Byte) : Statement (.rorZer b1) := ⟨rfl, rfl⟩
theorem rorZex (b1 : Byte) : Statement (.rorZex b1) := ⟨rfl, rfl⟩
theorem rorAbs (b1 b2 : Byte) : Statement (.rorAbs b1 b2) := ⟨rfl, rfl⟩
theorem rorAbx (b1 b2 : Byte) : Statement (.rorAbx b1 b2) := ⟨rfl, rfl⟩
theorem rti : Statement (.rti) := ⟨rfl, rfl⟩
theorem rts : Statement (.rts) := ⟨rfl, rfl⟩
theorem sbcImm (b1 : Byte) : Statement (.sbcImm b1) := ⟨rfl, rfl⟩
theorem sbcZer (b1 : Byte) : Statement (.sbcZer b1) := ⟨rfl, rfl⟩
theorem sbcZex (b1 : Byte) : Statement (.sbcZex b1) := ⟨rfl, rfl⟩
theorem sbcAbs (b1 b2 : Byte) : Statement (.sbcAbs b1 b2) := ⟨rfl, rfl⟩
theorem sbcAbx (b1 b2 : Byte) : Statement (.sbcAbx b1 b2) := ⟨rfl, rfl⟩
theorem sbcAby (b1 b2 : Byte) : Statement (.sbcAby b1 b2) := ⟨rfl, rfl⟩
theorem sbcIxi (b1 : Byte) : Statement (.sbcIxi b1) := ⟨rfl, rfl⟩
theorem sbcIix (b1 : Byte) : Statement (.sbcIix b1) := ⟨rfl, rfl⟩
theorem sec : Statement (.sec) := ⟨rfl, rfl⟩
theorem sed : Statement (.sed) := ⟨rfl, rfl⟩
theorem sei : Statement (.sei) := ⟨rfl, rfl⟩
theorem staZer (b1 : Byte) : Statement (.staZer b1) := ⟨rfl, rfl⟩
theorem staZex (b1 : Byte) : Statement (.staZex b1) := ⟨rfl, rfl⟩
theorem staAbs (b1 b2 : Byte) : Statement (.staAbs b1 b2) := ⟨rfl, rfl⟩
theorem staAbx (b1 b2 : Byte) : Statement (.staAbx b1 b2) := ⟨rfl, rfl⟩
theorem staAby (b1 b2 : Byte) : Statement (.staAby b1 b2) := ⟨rfl, rfl⟩
theorem staIxi (b1 : Byte) : Statement (.staIxi b1) := ⟨rfl, rfl⟩
theorem staIix (b1 : Byte) : Statement (.staIix b1) := ⟨rfl, rfl⟩
theorem stxZer (b1 : Byte) : Statement (.stxZer b1) := ⟨rfl, rfl⟩
theorem stxZey (b1 : Byte) : Statement (.stxZey b1) := ⟨rfl, rfl⟩
theorem stxAbs (b1 b2 : Byte) : Statement (.stxAbs b1 b2) := ⟨rfl, rfl⟩
theorem styZer (b1 : Byte) : Statement (.styZer b1) := ⟨rfl, rfl⟩
theorem styZex (b1 : Byte) : Statement (.styZex b1) := ⟨rfl, rfl⟩
theorem styAbs (b1 b2 : Byte) : Statement (.styAbs b1 b2) := ⟨rfl, rfl⟩
theorem tax : Statement (.tax) := ⟨rfl, rfl⟩
theorem tay : Statement (.tay) := ⟨rfl, rfl⟩
theorem tsx : Statement (.tsx) := ⟨rfl, rfl⟩
theorem txa : Statement (.txa) := ⟨rfl, rfl⟩
theorem txs : Statement (.txs) := ⟨rfl, rfl⟩
theorem tya : Statement (.tya) := ⟨rfl, rfl⟩

end Sys2Proof.Laws.Shape
end

