-- ==== Sys2Proof/Tests/Slice0.lean ====
section
/-!
SUPPORT. The model's own tests. Expected values are those of spec/95_test_vectors.md (T and S numbers in the comments) and of
the tables of spec/30_encoding.md; then, for every statement with hypotheses, a witness that meets them.
-/

namespace Sys2Proof.Tests

open Sys2Proof.Machine

/-! ### Helpers -/

/-- The unlisted start state of the vectors: registers zero, SP 0xFF, RAM zero, `pc` 0x8000, Run. -/
def start : State := { State.reset with pc := 0x8000 }

/-- Storage with the listed bytes, written one by one. -/
def bytes (l : List (Nat × Byte)) : Memory := l.foldl (fun m p => m.write p.1 p.2) []

/-- The next state of an outcome. -/
def nextOf : Result → Option State
  | .next t => some t
  | .fault _ => none
  | .refused _ => none

/-- One `Step` with the bytes of an instruction placed at `pc`. -/
def run1 (bs : List Byte) (s : State) : Option State := nextOf (step (pokeBytes s.pc bs s))

/-- The outcome is the fault of a transition that is not enabled. -/
def isNotEnabled : Result → Bool
  | .fault (.notEnabled _ _) => true
  | _ => false

/-! ### Which instructions exist (spec/30_encoding.md R85, the empty cells of the table by mnemonic)

`Instr` has no constructor for a pair that does not exist, so the ill-formed terms are pairs of a mnemonic and a form. -/

theorem test_no_inc_acc : pairExists .inc .acc = false := by decide
theorem test_no_sta_imm : pairExists .sta .imm = false := by decide
theorem test_no_ldx_abx : pairExists .ldx .abx = false := by decide
theorem test_no_bit_imm : pairExists .bit .imm = false := by decide
theorem test_no_jmp_abx : pairExists .jmp .abx = false := by decide
theorem test_no_bcc_abs : pairExists .bcc .abs = false := by decide
theorem test_no_pha_acc : pairExists .pha .acc = false := by decide
theorem test_asl_acc_exists : (Instr.aslAcc).wellFormed = true := by decide
theorem test_ldx_zey_exists : (Instr.ldxZey 0x10).wellFormed = true := by decide

/-! ### Decoding: every row of R85, its bytes written out (opcode, then 0x34, then 0x12) -/

/-- The bytes decode to the instruction, with nothing left over. -/
abbrev Decodes (l : List (List Byte × Instr)) : Prop := ∀ p ∈ l, decode p.1 = .ok (p.2, [])

/-- R85, opcodes 0x00 to 0x0F. -/
theorem test_decode_0x : Decodes [
    ([0x00], .brk), ([0x01, 0x34], .oraIxi 0x34), ([0x05, 0x34], .oraZer 0x34), ([0x06, 0x34], .aslZer 0x34),
    ([0x08], .php), ([0x09, 0x34], .oraImm 0x34), ([0x0A], .aslAcc), ([0x0D, 0x34, 0x12], .oraAbs 0x34 0x12),
    ([0x0E, 0x34, 0x12], .aslAbs 0x34 0x12)] := by decide

/-- R85, opcodes 0x10 to 0x1F. -/
theorem test_decode_1x : Decodes [
    ([0x10, 0x34], .bpl 0x34), ([0x11, 0x34], .oraIix 0x34), ([0x15, 0x34], .oraZex 0x34),
    ([0x16, 0x34], .aslZex 0x34), ([0x18], .clc), ([0x19, 0x34, 0x12], .oraAby 0x34 0x12),
    ([0x1D, 0x34, 0x12], .oraAbx 0x34 0x12), ([0x1E, 0x34, 0x12], .aslAbx 0x34 0x12)] := by decide

/-- R85, opcodes 0x20 to 0x2F. -/
theorem test_decode_2x : Decodes [
    ([0x20, 0x34, 0x12], .jsr 0x34 0x12), ([0x21, 0x34], .andIxi 0x34), ([0x24, 0x34], .bitZer 0x34),
    ([0x25, 0x34], .andZer 0x34), ([0x26, 0x34], .rolZer 0x34), ([0x28], .plp), ([0x29, 0x34], .andImm 0x34),
    ([0x2A], .rolAcc), ([0x2C, 0x34, 0x12], .bitAbs 0x34 0x12), ([0x2D, 0x34, 0x12], .andAbs 0x34 0x12),
    ([0x2E, 0x34, 0x12], .rolAbs 0x34 0x12)] := by decide

/-- R85, opcodes 0x30 to 0x3F. -/
theorem test_decode_3x : Decodes [
    ([0x30, 0x34], .bmi 0x34), ([0x31, 0x34], .andIix 0x34), ([0x35, 0x34], .andZex 0x34),
    ([0x36, 0x34], .rolZex 0x34), ([0x38], .sec), ([0x39, 0x34, 0x12], .andAby 0x34 0x12),
    ([0x3D, 0x34, 0x12], .andAbx 0x34 0x12), ([0x3E, 0x34, 0x12], .rolAbx 0x34 0x12)] := by decide

/-- R85, opcodes 0x40 to 0x4F. -/
theorem test_decode_4x : Decodes [
    ([0x40], .rti), ([0x41, 0x34], .eorIxi 0x34), ([0x45, 0x34], .eorZer 0x34), ([0x46, 0x34], .lsrZer 0x34),
    ([0x48], .pha), ([0x49, 0x34], .eorImm 0x34), ([0x4A], .lsrAcc), ([0x4C, 0x34, 0x12], .jmpAbs 0x34 0x12),
    ([0x4D, 0x34, 0x12], .eorAbs 0x34 0x12), ([0x4E, 0x34, 0x12], .lsrAbs 0x34 0x12)] := by decide

/-- R85, opcodes 0x50 to 0x5F. -/
theorem test_decode_5x : Decodes [
    ([0x50, 0x34], .bvc 0x34), ([0x51, 0x34], .eorIix 0x34), ([0x55, 0x34], .eorZex 0x34),
    ([0x56, 0x34], .lsrZex 0x34), ([0x58], .cli), ([0x59, 0x34, 0x12], .eorAby 0x34 0x12),
    ([0x5D, 0x34, 0x12], .eorAbx 0x34 0x12), ([0x5E, 0x34, 0x12], .lsrAbx 0x34 0x12)] := by decide

/-- R85, opcodes 0x60 to 0x6F. -/
theorem test_decode_6x : Decodes [
    ([0x60], .rts), ([0x61, 0x34], .adcIxi 0x34), ([0x65, 0x34], .adcZer 0x34), ([0x66, 0x34], .rorZer 0x34),
    ([0x68], .pla), ([0x69, 0x34], .adcImm 0x34), ([0x6A], .rorAcc), ([0x6C, 0x34, 0x12], .jmpInd 0x34 0x12),
    ([0x6D, 0x34, 0x12], .adcAbs 0x34 0x12), ([0x6E, 0x34, 0x12], .rorAbs 0x34 0x12)] := by decide

/-- R85, opcodes 0x70 to 0x7F. -/
theorem test_decode_7x : Decodes [
    ([0x70, 0x34], .bvs 0x34), ([0x71, 0x34], .adcIix 0x34), ([0x75, 0x34], .adcZex 0x34),
    ([0x76, 0x34], .rorZex 0x34), ([0x78], .sei), ([0x79, 0x34, 0x12], .adcAby 0x34 0x12),
    ([0x7D, 0x34, 0x12], .adcAbx 0x34 0x12), ([0x7E, 0x34, 0x12], .rorAbx 0x34 0x12)] := by decide

/-- R85, opcodes 0x80 to 0x8F. -/
theorem test_decode_8x : Decodes [
    ([0x81, 0x34], .staIxi 0x34), ([0x84, 0x34], .styZer 0x34), ([0x85, 0x34], .staZer 0x34),
    ([0x86, 0x34], .stxZer 0x34), ([0x88], .dey), ([0x8A], .txa), ([0x8C, 0x34, 0x12], .styAbs 0x34 0x12),
    ([0x8D, 0x34, 0x12], .staAbs 0x34 0x12), ([0x8E, 0x34, 0x12], .stxAbs 0x34 0x12)] := by decide

/-- R85, opcodes 0x90 to 0x9F. -/
theorem test_decode_9x : Decodes [
    ([0x90, 0x34], .bcc 0x34), ([0x91, 0x34], .staIix 0x34), ([0x94, 0x34], .styZex 0x34),
    ([0x95, 0x34], .staZex 0x34), ([0x96, 0x34], .stxZey 0x34), ([0x98], .tya),
    ([0x99, 0x34, 0x12], .staAby 0x34 0x12), ([0x9A], .txs), ([0x9D, 0x34, 0x12], .staAbx 0x34 0x12)] := by decide

/-- R85, opcodes 0xA0 to 0xAF. -/
theorem test_decode_Ax : Decodes [
    ([0xA0, 0x34], .ldyImm 0x34), ([0xA1, 0x34], .ldaIxi 0x34), ([0xA2, 0x34], .ldxImm 0x34),
    ([0xA4, 0x34], .ldyZer 0x34), ([0xA5, 0x34], .ldaZer 0x34), ([0xA6, 0x34], .ldxZer 0x34), ([0xA8], .tay),
    ([0xA9, 0x34], .ldaImm 0x34), ([0xAA], .tax), ([0xAC, 0x34, 0x12], .ldyAbs 0x34 0x12),
    ([0xAD, 0x34, 0x12], .ldaAbs 0x34 0x12), ([0xAE, 0x34, 0x12], .ldxAbs 0x34 0x12)] := by decide

/-- R85, opcodes 0xB0 to 0xBF. -/
theorem test_decode_Bx : Decodes [
    ([0xB0, 0x34], .bcs 0x34), ([0xB1, 0x34], .ldaIix 0x34), ([0xB4, 0x34], .ldyZex 0x34),
    ([0xB5, 0x34], .ldaZex 0x34), ([0xB6, 0x34], .ldxZey 0x34), ([0xB8], .clv),
    ([0xB9, 0x34, 0x12], .ldaAby 0x34 0x12), ([0xBA], .tsx), ([0xBC, 0x34, 0x12], .ldyAbx 0x34 0x12),
    ([0xBD, 0x34, 0x12], .ldaAbx 0x34 0x12), ([0xBE, 0x34, 0x12], .ldxAby 0x34 0x12)] := by decide

/-- R85, opcodes 0xC0 to 0xCF. -/
theorem test_decode_Cx : Decodes [
    ([0xC0, 0x34], .cpyImm 0x34), ([0xC1, 0x34], .cmpIxi 0x34), ([0xC4, 0x34], .cpyZer 0x34),
    ([0xC5, 0x34], .cmpZer 0x34), ([0xC6, 0x34], .decZer 0x34), ([0xC8], .iny), ([0xC9, 0x34], .cmpImm 0x34),
    ([0xCA], .dex), ([0xCC, 0x34, 0x12], .cpyAbs 0x34 0x12), ([0xCD, 0x34, 0x12], .cmpAbs 0x34 0x12),
    ([0xCE, 0x34, 0x12], .decAbs 0x34 0x12)] := by decide

/-- R85, opcodes 0xD0 to 0xDF. -/
theorem test_decode_Dx : Decodes [
    ([0xD0, 0x34], .bne 0x34), ([0xD1, 0x34], .cmpIix 0x34), ([0xD5, 0x34], .cmpZex 0x34),
    ([0xD6, 0x34], .decZex 0x34), ([0xD8], .cld), ([0xD9, 0x34, 0x12], .cmpAby 0x34 0x12),
    ([0xDD, 0x34, 0x12], .cmpAbx 0x34 0x12), ([0xDE, 0x34, 0x12], .decAbx 0x34 0x12)] := by decide

/-- R85, opcodes 0xE0 to 0xEF. -/
theorem test_decode_Ex : Decodes [
    ([0xE0, 0x34], .cpxImm 0x34), ([0xE1, 0x34], .sbcIxi 0x34), ([0xE4, 0x34], .cpxZer 0x34),
    ([0xE5, 0x34], .sbcZer 0x34), ([0xE6, 0x34], .incZer 0x34), ([0xE8], .inx), ([0xE9, 0x34], .sbcImm 0x34),
    ([0xEA], .nop), ([0xEC, 0x34, 0x12], .cpxAbs 0x34 0x12), ([0xED, 0x34, 0x12], .sbcAbs 0x34 0x12),
    ([0xEE, 0x34, 0x12], .incAbs 0x34 0x12)] := by decide

/-- R85, opcodes 0xF0 to 0xFF. -/
theorem test_decode_Fx : Decodes [
    ([0xF0, 0x34], .beq 0x34), ([0xF1, 0x34], .sbcIix 0x34), ([0xF5, 0x34], .sbcZex 0x34),
    ([0xF6, 0x34], .incZex 0x34), ([0xF8], .sed), ([0xF9, 0x34, 0x12], .sbcAby 0x34 0x12),
    ([0xFD, 0x34, 0x12], .sbcAbx 0x34 0x12), ([0xFE, 0x34, 0x12], .incAbx 0x34 0x12)] := by decide

/-- R86: a byte of the list has no instruction, whatever follows. -/
theorem test_decode_undefined : decode [0x02, 0x34, 0x12] = .error (.undefinedOpcode 0x02) := by decide
/-- R80, R81: operand bytes are missing. -/
theorem test_decode_truncated : decode [0x8D, 0x34] = .error (.truncated 0x8D) := by decide
/-- The bytes after an instruction are left over. -/
theorem test_decode_rest : decode [0xA5, 0x10, 0xEA] = .ok (.ldaZer 0x10, [0xEA]) := by decide
/-- The opcode table numbers the operand bytes after the opcode byte: LDA $1234 is AD 34 12. -/
theorem test_table_word : decodeTableWord 24 0x1234AD = some (.ldaAbs 0x34 0x12) := by decide
/-- With 8 bits given, the operand bytes are zeros. -/
theorem test_table_word_short : decodeTableWord 8 0xFFAD = some (.ldaAbs 0x00 0x00) := by decide
/-- The placed instruction is the one that runs: LDA #$80 right after reset. -/
theorem test_with_fetch_word : (nextOf (step (State.reset.withFetchWord 16 0x80A9))).map (fun t => t.a) = some 0x80 := by
  decide

/-! ### One step of each instruction -/

/-- T1: R121. -/
theorem test_lda_imm :
    (run1 [0xA9, 0x00] { start with a := 0x55 }).map (fun t => (t.a, t.st, t.pc)) =
      some (0x00, 0x02, 0x8002) := by decide

/-- T4: R121, R110. -/
theorem test_lda_zex :
    (run1 [0xB5, 0xFF]
      { start with x := 0x01, ram := bytes [(0x000, 0x11), (0x100, 0x22)] }).map (fun t => (t.a, t.st, t.pc)) =
      some (0x11, 0x00, 0x8002) := by decide

/-- T6: R121, R65. -/
theorem test_lda_abx :
    (run1 [0xBD, 0xFF, 0xFF]
      { start with x := 0x02, ram := bytes [(0x001, 0x44)] }).map (fun t => (t.a, t.st, t.pc)) =
      some (0x44, 0x00, 0x8003) := by decide

/-- T7: R121, R103. -/
theorem test_lda_aby :
    (run1 [0xB9, 0x00, 0x02]
      { start with y := 0xFF, ram := bytes [(0x2FF, 0x99)] }).map (fun t => (t.a, t.st, t.pc)) =
      some (0x99, 0x80, 0x8003) := by decide

/-- T9: R121, R107 (pointer at 0xFF, high byte from 0x00). -/
theorem test_lda_ixi :
    (run1 [0xA1, 0xFC]
      { start with x := 0x03, ram := bytes [(0x0FF, 0x40), (0x000, 0x03), (0x100, 0x77), (0x340, 0x66)] }).map
      (fun t => (t.a, t.st, t.pc)) =
      some (0x66, 0x00, 0x8002) := by decide

/-- T10: R121, R106, R104. -/
theorem test_lda_iix :
    (run1 [0xB1, 0xFF]
      { start with y := 0x10, ram := bytes [(0x0FF, 0xF8), (0x000, 0x02), (0x308, 0xA5), (0x100, 0x07)] }).map
      (fun t => (t.a, t.st, t.pc)) =
      some (0xA5, 0x80, 0x8002) := by decide

/-- T14: R121, R55. -/
theorem test_lda_abs :
    (run1 [0xAD, 0x16, 0x40] { start with a := 0x99 }).map (fun t => (t.a, t.st, t.pc)) =
      some (0x00, 0x02, 0x8003) := by decide

/-- T15: R121, R56. -/
theorem test_lda_abs_2 :
    (run1 [0xAD, 0x00, 0x90] { start with rom := bytes [(0x9000, 0xC3)] }).map (fun t => (t.a, t.st, t.pc)) =
      some (0xC3, 0x80, 0x8003) := by decide

/-- T16: R122. -/
theorem test_ldx_imm :
    (run1 [0xA2, 0xFF] start).map (fun t => (t.x, t.st, t.pc)) =
      some (0xFF, 0x80, 0x8002) := by decide

/-- T17: R122, R111. -/
theorem test_ldx_zey :
    (run1 [0xB6, 0x10]
      { start with y := 0xF8, ram := bytes [(0x008, 0x12), (0x108, 0xEE)] }).map (fun t => (t.x, t.st, t.pc)) =
      some (0x12, 0x00, 0x8002) := by decide

/-- T19: R123. -/
theorem test_ldy_imm :
    (run1 [0xA0, 0x7F] start).map (fun t => (t.y, t.st, t.pc)) =
      some (0x7F, 0x00, 0x8002) := by decide

/-- T20: R123. -/
theorem test_ldy_zex :
    (run1 [0xB4, 0x20] { start with x := 0x05, ram := bytes [(0x025, 0x80)] }).map (fun t => (t.y, t.st, t.pc)) =
      some (0x80, 0x80, 0x8002) := by decide

/-- T23: R124, R53. -/
theorem test_sta_abs :
    (run1 [0x8D, 0x00, 0x08] { start with a := 0xAB }).map (fun t => (t.st, t.pc, t.ram.read 0x000)) =
      some (0x00, 0x8003, 0xAB) := by decide

/-- T27: R124, R56. -/
theorem test_sta_abs_2 :
    (run1 [0x8D, 0x00, 0x80] { start with a := 0x1E }).map (fun t => (t.st, t.pc)) =
      some (0x00, 0x8003) := by decide

/-- T29: R124. -/
theorem test_sta_aby :
    (run1 [0x99, 0xF0, 0x02] { start with a := 0x42, y := 0x20 }).map (fun t => (t.st, t.pc, t.ram.read 0x310)) =
      some (0x00, 0x8003, 0x42) := by decide

/-- T31: R124. -/
theorem test_sta_iix :
    (run1 [0x91, 0x10]
      { start with a := 0x77, y := 0xFF, ram := bytes [(0x010, 0x01), (0x011, 0x06)] }).map
      (fun t => (t.st, t.pc, t.ram.read 0x700)) =
      some (0x00, 0x8002, 0x77) := by decide

/-- T32: R125. -/
theorem test_stx_zey :
    (run1 [0x96, 0xF0] { start with x := 0x5A, y := 0x20 }).map (fun t => (t.st, t.pc, t.ram.read 0x010)) =
      some (0x00, 0x8002, 0x5A) := by decide

/-- T34: R126. -/
theorem test_sty_zex :
    (run1 [0x94, 0xFF] { start with y := 0x3C, x := 0xFF }).map (fun t => (t.st, t.pc, t.ram.read 0x0FE)) =
      some (0x00, 0x8002, 0x3C) := by decide

/-- T36: R128. -/
theorem test_tax_imp :
    (run1 [0xAA] { start with a := 0x80 }).map (fun t => (t.x, t.st, t.pc)) =
      some (0x80, 0x80, 0x8001) := by decide

/-- T37: R129. -/
theorem test_tay_imp :
    (run1 [0xA8] { start with a := 0x00, y := 0x05 }).map (fun t => (t.y, t.st, t.pc)) =
      some (0x00, 0x02, 0x8001) := by decide

/-- T38: R130. -/
theorem test_txa_imp :
    (run1 [0x8A] { start with x := 0x01, a := 0xFF, st := 0x82 }).map (fun t => (t.a, t.st, t.pc)) =
      some (0x01, 0x00, 0x8001) := by decide

/-- T39: R131. -/
theorem test_tya_imp :
    (run1 [0x98] { start with y := 0xF0 }).map (fun t => (t.a, t.st, t.pc)) =
      some (0xF0, 0x80, 0x8001) := by decide

/-- T40: R132. -/
theorem test_tsx_imp :
    (run1 [0xBA] { start with sp := 0xFD }).map (fun t => (t.x, t.st, t.pc)) =
      some (0xFD, 0x80, 0x8001) := by decide

/-- T42: R133 (no flags). -/
theorem test_txs_imp :
    (run1 [0x9A] { start with x := 0x00, st := 0x80 }).map (fun t => (t.st, t.sp, t.pc)) =
      some (0x80, 0x00, 0x8001) := by decide

/-- T44: R142. -/
theorem test_pha_imp :
    (run1 [0x48] { start with a := 0x42 }).map (fun t => (t.st, t.sp, t.pc, t.ram.read 0x1FF)) =
      some (0x00, 0xFE, 0x8001, 0x42) := by decide

/-- T46: R142, R251. -/
theorem test_pha_imp_2 :
    (run1 [0x48] { start with a := 0x42, sp := 0x00 }).map (fun t => (t.st, t.pc, t.fault)) =
      some (0x00, 0x8001, some (.stackOverflow 0x00 0x8000 1)) := by decide

/-- T48: R143. -/
theorem test_php_imp :
    (run1 [0x08] { start with st := 0xC3, sp := 0x80 }).map (fun t => (t.st, t.sp, t.pc, t.ram.read 0x180)) =
      some (0xC3, 0x7F, 0x8001, 0xF3) := by decide

/-- T49: R144. -/
theorem test_pla_imp :
    (run1 [0x68]
      { start with sp := 0xFE, a := 0x11, ram := bytes [(0x1FF, 0x00)] }).map (fun t => (t.a, t.st, t.sp, t.pc)) =
      some (0x00, 0x02, 0xFF, 0x8001) := by decide

/-- T51: R144, R252. -/
theorem test_pla_imp_2 :
    (run1 [0x68] { start with sp := 0xFF, a := 0x11 }).map (fun t => (t.st, t.pc, t.fault)) =
      some (0x00, 0x8001, some (.stackUnderflow 0xFF 0x8000 1)) := by decide

/-- T53: R145. -/
theorem test_plp_imp :
    (run1 [0x28] { start with sp := 0xFE, ram := bytes [(0x1FF, 0xFF)] }).map (fun t => (t.st, t.sp, t.pc)) =
      some (0xFF, 0xFF, 0x8001) := by decide

/-- T55: R145, R252. -/
theorem test_plp_imp_2 :
    (run1 [0x28] { start with sp := 0xFF, st := 0x81 }).map (fun t => (t.st, t.pc, t.fault)) =
      some (0x81, 0x8001, some (.stackUnderflow 0xFF 0x8000 1)) := by decide

/-- T56: R152 (source example). -/
theorem test_adc_imm :
    (run1 [0x69, 0x50] { start with a := 0x50 }).map (fun t => (t.a, t.st, t.pc)) =
      some (0xA0, 0xC0, 0x8002) := by decide

/-- T62: R152, R151 (D ignored). -/
theorem test_adc_imm_2 :
    (run1 [0x69, 0x01] { start with a := 0x09, st := 0x08 }).map (fun t => (t.a, t.st, t.pc)) =
      some (0x0A, 0x08, 0x8002) := by decide

/-- T65: R152. -/
theorem test_adc_iix :
    (run1 [0x71, 0x20]
      { start with a := 0x01, y := 0x02, ram := bytes [(0x020, 0xFF), (0x021, 0x02), (0x301, 0x05)] }).map
      (fun t => (t.a, t.st, t.pc)) =
      some (0x06, 0x00, 0x8002) := by decide

/-- T66: R153 (source example, values derived). -/
theorem test_sbc_imm :
    (run1 [0xE9, 0xF0] { start with a := 0x50, st := 0x01 }).map (fun t => (t.a, t.st, t.pc)) =
      some (0x60, 0x00, 0x8002) := by decide

/-- T67: R153. -/
theorem test_sbc_imm_2 :
    (run1 [0xE9, 0xB0] { start with a := 0x50, st := 0x01 }).map (fun t => (t.a, t.st, t.pc)) =
      some (0xA0, 0xC0, 0x8002) := by decide

/-- T74: R153. -/
theorem test_sbc_abx :
    (run1 [0xFD, 0x00, 0x03]
      { start with a := 0x7F, x := 0x01, st := 0x01, ram := bytes [(0x301, 0xFF)] }).map
      (fun t => (t.a, t.st, t.pc)) =
      some (0x80, 0xC0, 0x8003) := by decide

/-- T75: R154. -/
theorem test_and_imm :
    (run1 [0x29, 0x0F] { start with a := 0xF0, st := 0x41 }).map (fun t => (t.a, t.st, t.pc)) =
      some (0x00, 0x43, 0x8002) := by decide

/-- T77: R155. -/
theorem test_eor_imm :
    (run1 [0x49, 0xFF] { start with a := 0x0F }).map (fun t => (t.a, t.st, t.pc)) =
      some (0xF0, 0x80, 0x8002) := by decide

/-- T80: R156. -/
theorem test_ora_ixi :
    (run1 [0x01, 0x10]
      { start with a := 0x01, x := 0xF0, ram := bytes [(0x000, 0x00), (0x001, 0x04), (0x400, 0x80)] }).map
      (fun t => (t.a, t.st, t.pc)) =
      some (0x81, 0x80, 0x8002) := by decide

/-- T83: R158 (N is not signed less-than). -/
theorem test_cmp_imm :
    (run1 [0xC9, 0x01] { start with a := 0x80 }).map (fun t => (t.st, t.pc)) =
      some (0x01, 0x8002) := by decide

/-- T84: R158. -/
theorem test_cmp_imm_2 :
    (run1 [0xC9, 0x00] { start with a := 0xFF, st := 0x40 }).map (fun t => (t.st, t.pc)) =
      some (0xC1, 0x8002) := by decide

/-- T86: R159. -/
theorem test_cpx_imm :
    (run1 [0xE0, 0x10] { start with x := 0x0F }).map (fun t => (t.st, t.pc)) =
      some (0x80, 0x8002) := by decide

/-- T88: R160. -/
theorem test_cpy_imm :
    (run1 [0xC0, 0x00] { start with y := 0x00 }).map (fun t => (t.st, t.pc)) =
      some (0x03, 0x8002) := by decide

/-- T90: R161. -/
theorem test_bit_zer :
    (run1 [0x24, 0x10] { start with a := 0x01, ram := bytes [(0x010, 0xC0)] }).map (fun t => (t.st, t.pc)) =
      some (0xC2, 0x8002) := by decide

/-- T91: R161. -/
theorem test_bit_zer_2 :
    (run1 [0x24, 0x10]
      { start with a := 0x01, st := 0xC2, ram := bytes [(0x010, 0x01)] }).map (fun t => (t.st, t.pc)) =
      some (0x00, 0x8002) := by decide

/-- T93: R171. -/
theorem test_asl_acc :
    (run1 [0x0A] { start with a := 0x81 }).map (fun t => (t.a, t.st, t.pc)) =
      some (0x02, 0x01, 0x8001) := by decide

/-- T94: R171. -/
theorem test_asl_acc_2 :
    (run1 [0x0A] { start with a := 0x80, st := 0x01 }).map (fun t => (t.a, t.st, t.pc)) =
      some (0x00, 0x03, 0x8001) := by decide

/-- T96: R171, R298 (write discarded, flags set). -/
theorem test_asl_abs :
    (run1 [0x0E, 0x00, 0x90] { start with rom := bytes [(0x9000, 0xC0)] }).map (fun t => (t.st, t.pc)) =
      some (0x81, 0x8003) := by decide

/-- T98: R172. -/
theorem test_lsr_acc :
    (run1 [0x4A] { start with a := 0x01, st := 0x80 }).map (fun t => (t.a, t.st, t.pc)) =
      some (0x00, 0x03, 0x8001) := by decide

/-- T100: R172. -/
theorem test_lsr_abx :
    (run1 [0x5E, 0x00, 0x02]
      { start with x := 0x01, ram := bytes [(0x201, 0xFF)] }).map (fun t => (t.st, t.pc, t.ram.read 0x201)) =
      some (0x01, 0x8003, 0x7F) := by decide

/-- T101: R173. -/
theorem test_rol_acc :
    (run1 [0x2A] { start with a := 0x40, st := 0x01 }).map (fun t => (t.a, t.st, t.pc)) =
      some (0x81, 0x80, 0x8001) := by decide

/-- T103: R173. -/
theorem test_rol_zex :
    (run1 [0x36, 0x10]
      { start with x := 0xF0, st := 0x01, ram := bytes [(0x000, 0xFF)] }).map (fun t => (t.st, t.pc)) =
      some (0x81, 0x8002) := by decide

/-- T105: R174. -/
theorem test_ror_acc :
    (run1 [0x6A] { start with a := 0x00, st := 0x01 }).map (fun t => (t.a, t.st, t.pc)) =
      some (0x80, 0x80, 0x8001) := by decide

/-- T106: R174. -/
theorem test_ror_abs :
    (run1 [0x6E, 0x00, 0x03]
      { start with st := 0x01, ram := bytes [(0x300, 0x01)] }).map (fun t => (t.st, t.pc, t.ram.read 0x300)) =
      some (0x81, 0x8003, 0x80) := by decide

/-- T107: R175 (C, V untouched). -/
theorem test_inc_zer :
    (run1 [0xE6, 0x20]
      { start with st := 0x41, ram := bytes [(0x020, 0xFF)] }).map (fun t => (t.st, t.pc, t.ram.read 0x020)) =
      some (0x43, 0x8002, 0x00) := by decide

/-- T109: R176. -/
theorem test_dec_abs :
    (run1 [0xCE, 0x00, 0x02]
      { start with ram := bytes [(0x200, 0x01)] }).map (fun t => (t.st, t.pc, t.ram.read 0x200)) =
      some (0x02, 0x8003, 0x00) := by decide

/-- T110: R176. -/
theorem test_dec_zex :
    (run1 [0xD6, 0x10]
      { start with x := 0x01, ram := bytes [(0x011, 0x00)] }).map (fun t => (t.st, t.pc, t.ram.read 0x011)) =
      some (0x80, 0x8002, 0xFF) := by decide

/-- T111: R177. -/
theorem test_inx_imp :
    (run1 [0xE8] { start with x := 0xFF, st := 0x01 }).map (fun t => (t.x, t.st, t.pc)) =
      some (0x00, 0x03, 0x8001) := by decide

/-- T112: R178. -/
theorem test_iny_imp :
    (run1 [0xC8] { start with y := 0x7F }).map (fun t => (t.y, t.st, t.pc)) =
      some (0x80, 0x80, 0x8001) := by decide

/-- T113: R179. -/
theorem test_dex_imp :
    (run1 [0xCA] { start with x := 0x00 }).map (fun t => (t.x, t.st, t.pc)) =
      some (0xFF, 0x80, 0x8001) := by decide

/-- T114: R180. -/
theorem test_dey_imp :
    (run1 [0x88] { start with y := 0x01 }).map (fun t => (t.y, t.st, t.pc)) =
      some (0x00, 0x02, 0x8001) := by decide

/-- T115: R182. -/
theorem test_sec_imp :
    (run1 [0x38] start).map (fun t => (t.st, t.pc)) =
      some (0x01, 0x8001) := by decide

/-- T116: R183. -/
theorem test_clc_imp :
    (run1 [0x18] { start with st := 0xFF }).map (fun t => (t.st, t.pc)) =
      some (0xFE, 0x8001) := by decide

/-- T117: R184. -/
theorem test_sei_imp :
    (run1 [0x78] start).map (fun t => (t.st, t.pc)) =
      some (0x04, 0x8001) := by decide

/-- T118: R185. -/
theorem test_cli_imp :
    (run1 [0x58] { start with st := 0x24 }).map (fun t => (t.st, t.pc)) =
      some (0x20, 0x8001) := by decide

/-- T119: R186. -/
theorem test_sed_imp :
    (run1 [0xF8] start).map (fun t => (t.st, t.pc)) =
      some (0x08, 0x8001) := by decide

/-- T120: R187. -/
theorem test_cld_imp :
    (run1 [0xD8] { start with st := 0x08 }).map (fun t => (t.st, t.pc)) =
      some (0x00, 0x8001) := by decide

/-- T121: R188. -/
theorem test_clv_imp :
    (run1 [0xB8] { start with st := 0xC0 }).map (fun t => (t.st, t.pc)) =
      some (0x80, 0x8001) := by decide

/-- T122: R189. -/
theorem test_nop_imp :
    (run1 [0xEA] { start with a := 0x12, st := 0xA5 }).map (fun t => (t.st, t.pc)) =
      some (0xA5, 0x8001) := by decide

/-- T123: R201 (taken). -/
theorem test_bcc_rel :
    (run1 [0x90, 0x02] start).map (fun t => (t.st, t.pc)) =
      some (0x00, 0x8004) := by decide

/-- T124: R201 (not taken). -/
theorem test_bcc_rel_2 :
    (run1 [0x90, 0x02] { start with st := 0x01 }).map (fun t => (t.st, t.pc)) =
      some (0x01, 0x8002) := by decide

/-- T125: R202 (branch to itself). -/
theorem test_bcs_rel :
    (run1 [0xB0, 0xFE] { start with st := 0x01 }).map (fun t => (t.st, t.pc)) =
      some (0x01, 0x8000) := by decide

/-- T126: R203. -/
theorem test_beq_rel :
    (run1 [0xF0, 0x10] { start with st := 0x02, pc := 0x0200 }).map (fun t => (t.st, t.pc)) =
      some (0x02, 0x0212) := by decide

/-- T127: R204. -/
theorem test_bne_rel :
    (run1 [0xD0, 0xFB] { start with pc := 0x8005 }).map (fun t => (t.st, t.pc)) =
      some (0x00, 0x8002) := by decide

/-- T128: R204 (not taken). -/
theorem test_bne_rel_2 :
    (run1 [0xD0, 0xFB] { start with st := 0x02, pc := 0x8005 }).map (fun t => (t.st, t.pc)) =
      some (0x02, 0x8007) := by decide

/-- T129: R205. -/
theorem test_bmi_rel :
    (run1 [0x30, 0x7F] { start with st := 0x80 }).map (fun t => (t.st, t.pc)) =
      some (0x80, 0x8081) := by decide

/-- T130: R206. -/
theorem test_bpl_rel :
    (run1 [0x10, 0x80] start).map (fun t => (t.st, t.pc)) =
      some (0x00, 0x7F82) := by decide

/-- T131: R207, R65 (wraps past 0xFFFF). -/
theorem test_bvc_rel :
    (run1 [0x50, 0x03] { start with pc := 0xFFFD }).map (fun t => (t.st, t.pc)) =
      some (0x00, 0x0002) := by decide

/-- T132: R208 (wraps below 0x0000). -/
theorem test_bvs_rel :
    (run1 [0x70, 0xFC] { start with st := 0x40, pc := 0x0000 }).map (fun t => (t.st, t.pc)) =
      some (0x40, 0xFFFE) := by decide

/-- T133: R209. -/
theorem test_jmp_abs :
    (run1 [0x4C, 0x00, 0x90] start).map (fun t => (t.st, t.pc)) =
      some (0x00, 0x9000) := by decide

/-- T134: R209. -/
theorem test_jmp_ind :
    (run1 [0x6C, 0x20, 0x01] { start with ram := bytes [(0x120, 0xFC), (0x121, 0xBA)] }).map (fun t => (t.st, t.pc)) =
      some (0x00, 0xBAFC) := by decide

/-- T135: R209, R104 (page wrap: high byte from 0x0200). -/
theorem test_jmp_ind_2 :
    (run1 [0x6C, 0xFF, 0x02]
      { start with ram := bytes [(0x2FF, 0x34), (0x200, 0x12), (0x300, 0x56)] }).map (fun t => (t.st, t.pc)) =
      some (0x00, 0x1234) := by decide

/-- T137: R210. -/
theorem test_jsr_abs :
    (run1 [0x20, 0x10, 0x80] start).map (fun t => (t.st, t.sp, t.pc, t.ram.read 0x1FE, t.ram.read 0x1FF)) =
      some (0x00, 0xFD, 0x8010, 0x02, 0x80) := by decide

/-- T138: R210, R251 (second push faults). -/
theorem test_jsr_abs_2 :
    (run1 [0x20, 0x34, 0x12] { start with sp := 0x01 }).map (fun t => (t.sp, t.pc, t.ram.read 0x101, t.fault)) =
      some (0x00, 0x8003, 0x80, some (.stackOverflow 0x00 0x8000 2)) := by decide

/-- T140: R211. -/
theorem test_rts_imp :
    (run1 [0x60]
      { start with sp := 0xFD, ram := bytes [(0x1FE, 0x02), (0x1FF, 0x80)] }).map (fun t => (t.st, t.sp, t.pc)) =
      some (0x00, 0xFF, 0x8003) := by decide

/-- T142: R211, R252 (second pop faults). -/
theorem test_rts_imp_2 :
    (run1 [0x60] { start with sp := 0xFE, ram := bytes [(0x1FF, 0x80)] }).map (fun t => (t.st, t.sp, t.pc, t.fault)) =
      some (0x00, 0xFF, 0x8001, some (.stackUnderflow 0xFF 0x8000 2)) := by decide

/-- T143: R212. -/
theorem test_brk_imp :
    (run1 [0x00]
      { start with rom := bytes [(0xFFFE, 0x00), (0xFFFF, 0x90)] }).map
      (fun t => (t.st, t.sp, t.pc, t.ram.read 0x1FD, t.ram.read 0x1FE, t.ram.read 0x1FF)) =
      some (0x04, 0xFC, 0x9000, 0x30, 0x02, 0x80) := by decide

/-- T145: R212, R273 (third push faults). -/
theorem test_brk_imp_2 :
    (run1 [0x00]
      { start with sp := 0x02, rom := bytes [(0xFFFE, 0x00), (0xFFFF, 0x90)] }).map
      (fun t => (t.sp, t.pc, t.ram.read 0x101, t.ram.read 0x102, t.fault)) =
      some (0x00, 0x8002, 0x02, 0x80, some (.stackOverflow 0x00 0x8000 3)) := by decide

/-- T148: R213 (B, U bits loaded verbatim). -/
theorem test_rti_imp :
    (run1 [0x40]
      { start with sp := 0xFC, st := 0x04, ram := bytes [(0x1FD, 0x30), (0x1FE, 0x02), (0x1FF, 0x80)] }).map
      (fun t => (t.st, t.sp, t.pc)) =
      some (0x30, 0xFF, 0x8002) := by decide

/-- T149: R213, R252 (ST already replaced). -/
theorem test_rti_imp_2 :
    (run1 [0x40]
      { start with sp := 0xFE, st := 0x00, ram := bytes [(0x1FF, 0xC3)] }).map
      (fun t => (t.st, t.sp, t.pc, t.fault)) =
      some (0xC3, 0xFF, 0x8001, some (.stackUnderflow 0xFF 0x8000 2)) := by decide

/-! ### Peripheral registers, invalid opcodes, interrupts, reset -/

/-- T25, S7: STA $2008 is the event PW at 0x2000. -/
theorem test_peripheral_write_mirror :
    (run1 [0x8D, 0x08, 0x20] { start with a := 0x1E }).map (fun t => (t.events, t.ram)) =
      some ([.call .step, .pw 0x2000 0x1E], []) := by decide

/-- T13: LDA $3FFA is one read event at 0x2002, with whatever byte the environment answers in A. -/
theorem test_peripheral_read_mirror :
    run1 [0xAD, 0xFA, 0x3F] start = some
      (let v := Config.periphRead [.call .step] 0x2002
       { setNZ v (pokeBytes 0x8000 [0xAD, 0xFA, 0x3F] start) with
         a := v, pc := 0x8003, cyclesLeft := 4, events := [.call .step, .pr 0x2002 v] }) := by rfl

/-- T150: an undefined byte halts with its record, `pc` one further. -/
theorem test_invalid_opcode :
    (run1 [0x02] start).map (fun t => (t.pc, t.ctl, t.fault)) =
      some (0x8001, .halted, some (.invalidOpcode 0x02 0x8000)) := by decide

/-- T146: the unmapped address 0x4000 reads 0x00, which is BRK. -/
theorem test_brk_from_unmapped :
    (run1 [] { start with pc := 0x4000, rom := bytes [(0xFFFE, 0x00), (0xFFFF, 0x90)] }).map
        (fun t => (t.sp, t.pc, t.ram.read 0x1FD, t.ram.read 0x1FE, t.ram.read 0x1FF)) =
      some (0xFC, 0x9000, 0x30, 0x02, 0x40) := by decide

/-- T153, S8: the pushes of `Nmi` and its vector. -/
theorem test_nmi :
    (nextOf (transition .nmi
        { start with pc := 0x1234, st := 0x24, rom := bytes [(0xFFFA, 0x00), (0xFFFB, 0xC0)] })).map
        (fun t => (t.sp, t.pc, t.ram.read 0x1FD, t.ram.read 0x1FE, t.ram.read 0x1FF)) =
      some (0xFC, 0xC000, 0x24, 0x34, 0x12) := by decide

/-- T155: `Nmi` with room for one byte. -/
theorem test_nmi_overflow :
    (nextOf (transition .nmi { start with pc := 0x8003, sp := 0x01 })).map
        (fun t => (t.sp, t.pc, t.ram.read 0x101, t.fault)) =
      some (0x00, 0x8003, 0x80, some (.stackOverflow 0x00 0x8003 2)) := by decide

/-- T158: B is clear in the pushed copy even where it is set in ST. -/
theorem test_irq :
    (nextOf (transition .irq { start with pc := 0x8123, st := 0x10, rom := bytes [(0xFFFF, 0x90)] })).map
        (fun t => (t.st, t.sp, t.pc, t.ram.read 0x1FD)) =
      some (0x14, 0xFC, 0x9000, 0x20) := by decide

/-- T157: a masked `Irq` does nothing. -/
theorem test_irq_masked :
    nextOf (transition .irq { start with pc := 0x8123, st := 0x04 }) = some { start with pc := 0x8123, st := 0x04 } := by
  decide

/-- T159: `Rst` reinitialises the registers, keeps RAM and loads `pc`. -/
theorem test_rst :
    (nextOf (transition .rst { start with a := 0x11, st := 0xFF, sp := 0x10, ram := bytes [(0x010, 0x55)],
                                          rom := bytes [(0xFFFD, 0x80)] })).map
        (fun t => (t.a, t.st, t.sp, t.pc, t.ram.read 0x010)) =
      some (0x00, 0x00, 0xFF, 0x8000, 0x55) := by decide

/-- R236, P4: in Halted a `Step` is not enabled and `Rst` is. -/
theorem test_halted_enables_rst :
    isNotEnabled (step { start with ctl := .halted }) = true ∧
      (nextOf (step { start with ctl := .halted, schedule := [.rst] })).map (fun t => t.ctl) = some .run := by decide

/-- S6, T23: the RAM mirrors are one byte. -/
theorem test_ram_mirror :
    (memPeek 0x0800 (memWrite 0x0000 0xAB start), memPeek 0x1800 (memWrite 0x0000 0xAB start)) = (0xAB, 0xAB) := by decide

/-- S5, T136: the pointer at 0x00FF takes its high byte from 0x0000. -/
theorem test_pointer_page_wrap :
    (getAddr .ind 0x00FF 0x00 { start with ram := bytes [(0x000, 0x90), (0x100, 0x80)] }).1 = 0x9000 := by decide

/-- R276: the accessors, with identifiers 0 to 6; 7 is no register. -/
theorem test_tap :
    (tapReg 3 { start with st := 0xA5 }, tapReg 6 start, tapReg 7 start, tapPc start) =
      (some 0xA5, some 0x80, none, 0x8000) := by decide

/-- A write of what unlisted storage reads as removes the entry, so equal memories are equal data. -/
theorem test_memory_canonical : (Memory.write [(0x010, 0x55)] 0x010 0x00, Memory.write [] 0x010 0x00) = ([], []) := by decide

/-! ### Witnesses: a state and operands that meet the hypotheses of each statement, clause by clause -/

theorem test_witness_DecodeInvertsEncode :
    (Instr.ldaAbs 0xFF 0xFF).wellFormed = true := by decide

theorem test_witness_EncodeInvertsDecode :
    decode [0x00, 0xFF] = .ok (.brk, [0xFF]) := by decide

theorem test_witness_StepRunsDecodedInstruction :
    ∃ (i : Instr) (s t : State), s.ctl = .run ∧ nextEntry s = .step ∧ i.wellFormed = true ∧
      decode (fetchBytes i.length (beginTransition s)).1 = .ok (i, []) ∧
      exec i (fetchBytes i.length (beginTransition s)).2 = .next t ∧ t.ctl = .run := 
  ⟨.nop, pokeBytes 0x8000 [0xEA] start, _, rfl, rfl, rfl, rfl, rfl, rfl⟩

theorem test_witness_StepRunsDecodedInstruction_halts :
    ∃ (i : Instr) (s t : State), s.ctl = .run ∧ nextEntry s = .step ∧ i.wellFormed = true ∧
      decode (fetchBytes i.length (beginTransition s)).1 = .ok (i, []) ∧
      exec i (fetchBytes i.length (beginTransition s)).2 = .next t ∧ t.ctl ≠ .run := 
  ⟨.pha, pokeBytes 0x8000 [0x48] { start with sp := 0x00 }, _, rfl, rfl, rfl, rfl, rfl, by decide⟩

theorem test_witness_UndefinedOpcodeHalts :
    ∀ b ∈ [(0x02 : Byte), 0xFF], let s := pokeBytes 0x8000 [b] start
      s.ctl = .run ∧ nextEntry s = .step ∧ memPeek s.pc (beginTransition s) ∈ undefinedBytes := by decide

theorem test_witness_StepKeepsInvariant :
    ∃ t, State.reset.Inv ∧ step State.reset = .next t := ⟨_, by decide, rfl⟩

theorem test_witness_StepKeepsInvariant_halted :
    ∃ s t : State, s.ctl = .halted ∧ s.Inv ∧ step s = .next t := 
  ⟨{ start with ctl := .halted, fault := some (.stackOverflow 0x00 0x8000 1), schedule := [.rst] }, _, rfl, by decide, rfl⟩

theorem test_witness_CartridgeIsNeverWritten :
    ∃ t, step start = .next t ∧ 0x8000 ≤ (0x8000 : Word).toNat ∧ 0x8000 ≤ (0xFFFF : Word).toNat := ⟨_, rfl, by decide, by decide⟩

theorem test_witness_NmiEntersHandler :
    ∃ s : State, s.ramWf = true ∧ s.ctl = .run ∧ s.sp.toNat = 3 := ⟨{ start with sp := 0x03 }, by decide⟩

theorem test_witness_IrqEntersHandlerUnlessMasked :
    (∃ s : State, s.ctl = .run ∧ s.flag .i = true) ∧
      ∃ s : State, s.ctl = .run ∧ s.ramWf = true ∧ s.flag .i = false ∧ s.sp.toNat = 3 := 
  ⟨⟨{ start with st := 0x04 }, by decide⟩, ⟨{ start with sp := 0x03 }, by decide⟩⟩

theorem test_witness_BrkEntersHandler :
    (∃ s : State, s.ramWf = true ∧ s.sp.toNat = 3) ∧ ∃ s : State, s.ramWf = true ∧ s.sp.toNat = 2 := 
  ⟨⟨{ start with sp := 0x03 }, by decide⟩, ⟨{ start with sp := 0x02 }, by decide⟩⟩

theorem test_witness_InterruptEntryFaultKeepsPushes :
    ∀ b ∈ [(0x00 : Byte), 0x02], let s : State := { start with sp := b }
      s.ramWf = true ∧ s.sp.toNat ≤ 2 ∧ s.ctl = .run ∧ s.flag .i = false := by decide

theorem test_witness_RtiRestoresStatusAndPc :
    ({ start with sp := 0xFC } : State).sp.toNat ≤ 0xFC ∧ ({ start with sp := 0xFD } : State).sp.toNat = 0xFD ∧
      ({ start with sp := 0xFE } : State).sp.toNat = 0xFE ∧ start.sp.toNat = 0xFF := by decide

theorem test_witness_InterruptThenRtiResumes :
    ∃ s t : State, s.ramWf = true ∧ s.ctl = .run ∧ s.sp.toNat = 3 ∧ transition .nmi s = .next t := 
  ⟨{ start with sp := 0x03 }, _, rfl, rfl, rfl, rfl⟩

theorem test_witness_InterruptThenRtiResumes_irq :
    ∃ s t : State, s.ramWf = true ∧ s.ctl = .run ∧ s.sp.toNat = 3 ∧ s.flag .i = false ∧ transition .irq s = .next t := 
  ⟨{ start with sp := 0x03 }, _, rfl, rfl, rfl, rfl, rfl⟩

theorem test_witness_InterruptThenRtiResumes_brk :
    ∃ s t : State, s.ramWf = true ∧ s.ctl = .run ∧ s.sp.toNat = 3 ∧ exec .brk s = .next t := 
  ⟨{ start with sp := 0x03 }, _, rfl, rfl, rfl, rfl⟩

theorem test_witness_HaltedEnablesOnlyRst :
    ({ start with ctl := .halted } : State).ctl = .halted ∧
      ∃ (i : Instr) (s t : State), s.ctl = .run ∧ exec i s = .next t := 
  ⟨rfl, .pla, start, _, rfl, rfl⟩

theorem test_witness_PushWritesThenDecrements :
    ∃ s t : State, (s.ramWf = true ∧ s.sp ≠ 0x00 ∧ s.sp = 0x01) ∧ t.sp = 0x00 := 
  ⟨{ start with sp := 0x01 }, { start with sp := 0x00 }, by decide⟩

theorem test_witness_PopIncrementsThenReads :
    ∃ s t : State, (s.sp ≠ 0xFF ∧ s.sp = 0xFE) ∧ t.sp = 0xFF := ⟨{ start with sp := 0xFE }, start, by decide⟩

theorem test_witness_PushesThenPopsRestore :
    ∃ s t : State, (s.ramWf = true ∧ [(0x10 : Byte), 0x11, 0x12].length = s.sp.toNat) ∧
      t.ramWf = true ∧ ([] : List Byte).length ≤ t.sp.toNat := 
  ⟨{ start with sp := 0x03 }, { start with sp := 0x00 }, by decide⟩

theorem test_witness_StackHolds255Bytes :
    start.sp = 0xFF ∧ (List.replicate 255 (0x00 : Byte)).length ≤ 255 ∧
      (List.replicate 256 (0x00 : Byte)).length = 256 := 
  ⟨rfl, List.length_replicate.le, List.length_replicate⟩

theorem test_witness_BusReadRouting :
    ((0x1FFF : Word).toNat < 0x2000) ∧ (∀ a ∈ [(0x2000 : Word), 0x3FFF], 0x2000 ≤ a.toNat ∧ a.toNat < 0x4000) ∧
      (∀ a ∈ [(0x4000 : Word), 0x7FFF], 0x4000 ≤ a.toNat ∧ a.toNat < 0x8000) ∧ 0x8000 ≤ (0x8000 : Word).toNat := by simp

theorem test_witness_BusWriteRouting :
    ((0x1FFF : Word).toNat < 0x2000 ∧ start.ramWf = true) ∧
      (∀ a ∈ [(0x2000 : Word), 0x3FFF], 0x2000 ≤ a.toNat ∧ a.toNat < 0x4000) ∧ 0x4000 ≤ (0x4000 : Word).toNat := ⟨⟨by simp, rfl⟩, by simp, by simp⟩

theorem test_witness_RamIsMirrored :
    ∃ (a : Word) (j k : Nat) (s : State), a.toNat = 0x07FF ∧ a.toNat < 0x0800 ∧ j < 4 ∧ k < 4 ∧ j ≠ k ∧ s.ramWf = true := 
  ⟨0x07FF, 0, 3, start, by decide⟩

theorem test_witness_LoadResult :
    (Instr.ldaImm 0xFF).operand = .src (.imm 0xFF) ∧ (Instr.ldxZey 0xFF).operand = .src (.mem (.zey 0xFF)) ∧
      ∀ p ∈ [(Instr.ldaImm 0xFF, Reg.a), (.ldxZey 0xFF, .x), (.ldyAbx 0xFF 0xFF, .y)],
        (p.1.op, p.2) ∈ [(Mnemonic.lda, Reg.a), (.ldx, .x), (.ldy, .y)] := by decide

theorem test_witness_StoreResult :
    start.ramWf = true ∧ (Instr.staAbs 0xFF 0xFF).operand = .src (.mem (.abs 0xFF 0xFF)) ∧
      ∀ p ∈ [(Instr.staAbs 0xFF 0xFF, Reg.a), (.stxZey 0xFF, .x), (.styZex 0xFF, .y)],
        (p.1.op, p.2) ∈ [(Mnemonic.sta, Reg.a), (.stx, .x), (.sty, .y)] := by decide

theorem test_witness_TransferResult :
    ∃ (i : Instr) (des src : Reg),
      (i, des, src) ∈ [(Instr.tax, Reg.x, Reg.a), (.tay, .y, .a), (.txa, .a, .x), (.tya, .a, .y), (.tsx, .x, .sp)] := 
  ⟨.tsx, .x, .sp, by decide⟩

theorem test_witness_PushInstructionResult :
    ∀ i ∈ [Instr.pha, .php], (i = .pha ∨ i = .php) ∧ ({ start with sp := 0x01 } : State).ramWf = true ∧
      ({ start with sp := 0x01 } : State).sp ≠ 0x00 ∧ ({ start with sp := 0x00 } : State).sp = 0x00 := by decide

theorem test_witness_PullInstructionResult :
    ∀ i ∈ [Instr.pla, .plp], (i = .pla ∨ i = .plp) ∧ ({ start with sp := 0xFE } : State).sp ≠ 0xFF ∧ start.sp = 0xFF := by decide

theorem test_witness_AdcResult :
    (Instr.adcIix 0xFF).op = .adc ∧ (Instr.adcIix 0xFF).operand = .src (.mem (.iix 0xFF)) := by decide

theorem test_witness_SbcResult :
    (Instr.sbcImm 0xFF).op = .sbc ∧ (Instr.sbcImm 0xFF).operand = .src (.imm 0xFF) := by decide

theorem test_witness_AdcOverflowIsSigned :
    (Instr.adcImm 0x7F).op = .adc ∧ (Instr.adcImm 0x7F).operand = .src (.imm 0x7F) := by decide

theorem test_witness_BitResult :
    (Instr.bitZer 0xFF).op = .bit ∧ (Instr.bitZer 0xFF).operand = .src (.mem (.zer 0xFF)) := by decide

theorem test_witness_LogicResult :
    ∃ s : State, s.a = 0xF0 ∧ ∀ p ∈ [(Instr.andImm 0x0F, (0x00 : Byte)), (.eorImm 0x0F, 0xFF), (.oraImm 0x0F, 0xFF)],
      logicRule p.1.op s.a (loadOperand (.imm 0x0F) s).1 = some p.2 ∧ p.1.operand = .src (.imm 0x0F) := 
  ⟨{ start with a := 0xF0 }, by decide⟩

theorem test_witness_CompareResult :
    ∀ p ∈ [(Instr.cmpImm 0xFF, Reg.a), (.cpxImm 0xFF, .x), (.cpyImm 0xFF, .y)],
      (p.1.op, p.2) ∈ [(Mnemonic.cmp, Reg.a), (.cpx, .x), (.cpy, .y)] ∧ p.1.operand = .src (.imm 0xFF) := by decide

theorem test_witness_ShiftResult :
    ∃ s : State, s.a = 0x81 ∧ s.flag .c = true ∧
      ∀ p ∈ [(Instr.aslAcc, 0x02, true), (.lsrAcc, 0x40, true), (.rolAcc, 0x03, true), (.rorAcc, 0xC0, true)],
        p.1.operand = .acc ∧ shiftRule p.1.op s.a.toNat (s.flag .c).toNat = some p.2 := 
  ⟨{ start with a := 0x81, st := 0x01 }, by decide⟩

theorem test_witness_ShiftResult_memory :
    ∃ s : State, s.ramWf = true ∧ (Instr.rorZer 0xFF).operand = .src (.mem (.zer 0xFF)) ∧
      shiftRule (Instr.rorZer 0xFF).op (memPeek (ea (.zer 0xFF) s).1 (ea (.zer 0xFF) s).2).toNat (s.flag .c).toNat =
        some ((0x80 : Byte).toNat, true) := 
  ⟨{ start with ram := bytes [(0x0FF, 0x01)], st := 0x01 }, by decide⟩

theorem test_witness_IncDecMemoryResult :
    start.ramWf = true ∧ ∀ p ∈ [(Instr.incZer 0xFF, (0x01 : Byte)), (.decZer 0xFF, 0xFF)],
      (p.1.op, p.2) ∈ [(Mnemonic.inc, (0x01 : Byte)), (.dec, 0xFF)] ∧ p.1.operand = .src (.mem (.zer 0xFF)) := by decide

theorem test_witness_IncDecRegisterResult :
    ∃ (i : Instr) (r : Reg) (d : Nat),
      (i, r, d) ∈ [(Instr.inx, Reg.x, 1), (.iny, .y, 1), (.dex, .x, 255), (.dey, .y, 255)] := ⟨.dey, .y, 255, by decide⟩

theorem test_witness_FlagInstructionResult :
    ∃ (i : Instr) (f : Machine.Flag) (v : Bool),
      (i, f, v) ∈ [(Instr.sec, Machine.Flag.c, true), (.clc, .c, false), (.sei, .i, true), (.cli, .i, false), (.sed, .d, true),
        (.cld, .d, false), (.clv, .v, false)] := ⟨.clv, .v, false, by decide⟩

theorem test_witness_BranchResult :
    (Instr.bvs 0x80).operand = .rel 0x80 ∧ ((Instr.bvs 0x80).op, Machine.Flag.v, true) ∈ branchOps ∧
      ({ start with st := 0x40 } : State).flag .v = true ∧ start.flag .v ≠ true := by decide

theorem test_witness_JsrResult :
    ∀ b ∈ [(0x02 : Byte), 0x01, 0x00], let s : State := { start with sp := b }
      s.ramWf = true ∧ (s.sp.toNat = 2 ∨ s.sp = 0x01 ∨ s.sp = 0x00) := by decide

theorem test_witness_RtsResult :
    ({ start with sp := 0xFD } : State).sp.toNat ≤ 0xFD ∧ ({ start with sp := 0xFE } : State).sp = 0xFE ∧ start.sp = 0xFF := by decide

theorem test_witness_SubroutineReturnsAfterCall :
    ∃ (b1 b2 : Byte) (s t : State), s.ramWf = true ∧ s.sp.toNat = 2 ∧ exec (.jsr b1 b2) s = .next t := 
  ⟨0x34, 0x12, { start with sp := 0x02 }, _, rfl, rfl, rfl⟩

theorem test_witness_RegisterWriters :
    ∃ s t : State, exec .nop s = .next t ∧ (Instr.nop).operand ≠ .acc ∧
      (Instr.nop).op ∉ [.lda, .pla, .txa, .tya, .adc, .sbc, .and, .eor, .ora] := ⟨start, _, rfl, by decide, by decide⟩

theorem test_witness_FlagWriters :
    ∃ s t : State, exec .txs s = .next t ∧ (Instr.txs).op ∈ [.sta, .stx, .sty, .txs, .pha, .php] ∧
      (Instr.txs).op ∉ [.plp, .rti] := ⟨start, _, rfl, by decide, by decide⟩

theorem test_witness_MemoryWriters :
    ∀ i ∈ [Instr.nop, .rolAcc], (∃ t, exec i start = .next t) ∧
      i.op ∉ [.sta, .stx, .sty, .inc, .dec, .pha, .php, .jsr, .brk] ∧
      (i.op ∈ [.asl, .lsr, .rol, .ror] → i.operand = .acc) := by
  intro i hi
  simp only [List.mem_cons, List.not_mem_nil, or_false] at hi
  rcases hi with rfl | rfl <;> exact ⟨⟨_, rfl⟩, by decide, by decide⟩

theorem test_witness_PeripheralAccessesAreEvents_read :
    ∃ s : State, route (ea (.abs 0x00 0x20) s).1 = .periph 0x2000 ∧
      route (ea (.iix 0xFF) s).1 = .periph 0x2007 ∧ (Instr.bitAbs 0x00 0x20).operand = .src (.mem (.abs 0x00 0x20)) ∧
      (Instr.bitAbs 0x00 0x20).op ∈ readOps ∧ (Instr.ldaIix 0xFF).operand = .src (.mem (.iix 0xFF)) ∧
      (Instr.ldaIix 0xFF).op ∈ readOps ∧
      ((Instr.ldaIix 0xFF).op, Reg.a) ∈ [(Mnemonic.lda, Reg.a), (.ldx, .x), (.ldy, .y)] := 
  ⟨{ start with ram := bytes [(0x000, 0x3F), (0x0FF, 0xFE)], y := 0x01 }, by decide⟩

theorem test_witness_PeripheralAccessesAreEvents_write :
    ∃ s : State, route (ea (.iix 0xFF) s).1 = .periph 0x2007 ∧
      (Instr.staIix 0xFF).operand = .src (.mem (.iix 0xFF)) ∧
      ((Instr.staIix 0xFF).op, Reg.a) ∈ [(Mnemonic.sta, Reg.a), (.stx, .x), (.sty, .y)] := 
  ⟨{ start with ram := bytes [(0x000, 0x3F), (0x0FF, 0xFE)], y := 0x01 }, by decide⟩

theorem test_witness_PeripheralAccessesAreEvents_modify :
    ∃ s : State, route (ea (.abx 0xFF 0x3F) s).1 = .periph 0x2007 ∧
      ∀ i ∈ [Instr.aslAbx 0xFF 0x3F, .rorAbx 0xFF 0x3F, .incAbx 0xFF 0x3F, .decAbx 0xFF 0x3F],
        i.operand = .src (.mem (.abx 0xFF 0x3F)) ∧ i.op ∈ [.asl, .lsr, .rol, .ror, .inc, .dec] := ⟨start, by decide⟩

theorem test_witness_PeripheralAccessesAreEvents_shift :
    ∀ v : Byte, shiftRule (Instr.aslAbs 0x07 0x20).op v.toNat (start.flag .c).toNat =
      some (2 * v.toNat % 256, decide (128 ≤ v.toNat)) := by simp [shiftRule, Instr.op]

theorem test_witness_PeripheralAccessesAreEvents_fetch :
    route ({ start with pc := 0x2000 } : State).pc = .periph 0x2000 ∧
      route ({ start with pc := 0x3FFF } : State).pc = .periph 0x2007 := by decide

theorem test_witness_PenaltyCycles :
    ∃ s t : State, exec (.ldaAbx 0xFF 0x12) s = .next t ∧ (Instr.ldaAbx 0xFF 0x12).op ∈ readOps ∧
      (Instr.ldaAbx 0xFF 0x12).operand = .src (.mem (.abx 0xFF 0x12)) ∧ leavesPage (.abx 0xFF 0x12) s ∧
      ¬ leavesPage (.abx 0xFE 0x12) s := 
  ⟨{ start with x := 0x01 }, _, rfl, by decide, rfl, by show 256 ≤ 255 + 1; decide, by show ¬ 256 ≤ 254 + 1; decide⟩

theorem test_witness_PenaltyCycles_branch :
    ∃ s t : State, exec (.bne 0x7F) s = .next t ∧ ((Instr.bne 0x7F).op, Machine.Flag.z, false) ∈ branchOps ∧
      s.flag .z = false := ⟨start, _, rfl, by decide, by decide⟩

theorem test_witness_ClockRunsThenCounts :
    (∃ s t : State, s.ctl = .run ∧ s.cyclesLeft = 0 ∧ transition .step s = .next t) ∧
      ∃ s : State, ¬ (s.ctl = .run ∧ s.cyclesLeft = 0) := 
  ⟨⟨start, _, rfl, rfl, rfl⟩, ⟨{ start with cyclesLeft := 1 }, by decide⟩⟩

end Sys2Proof.Tests
end

/-! ### Frames -/

namespace Sys2Proof.Machine

/-! What each shared operation leaves unchanged, in the vocabulary of `Kept`: one lemma per state update, and one per
family composed from them by `Kept.trans`. -/

section Frame

variable {rs rs' : List Reg} {fs fs' : List Flag} {s t u : State}

/-- `Kept` without the controller: what also holds of a transition that raised. -/
def Frame (regs : List Reg) (flags : List Flag) (s t : State) : Prop := RegsKept regs s t ∧ FlagsKept flags s t

theorem Kept.frame (h : Kept rs fs s t) : Frame rs fs s t := ⟨h.1, h.2.1⟩

theorem Frame.refl (rs : List Reg) (fs : List Flag) (s : State) : Frame rs fs s s :=
  ⟨fun _ _ _ => rfl, fun _ _ => rfl⟩

theorem Frame.trans (h : Frame rs fs s t) (h' : Frame rs' fs' t u) : Frame (rs ++ rs') (fs ++ fs') s u := by
  obtain ⟨hr, hf⟩ := h
  obtain ⟨hr', hf'⟩ := h'
  refine ⟨fun r hst hn => ?_, fun f hn => ?_⟩
  · rw [List.mem_append, not_or] at hn
    exact (hr' r hst hn.2).trans (hr r hst hn.1)
  · rw [List.mem_append, not_or] at hn
    exact (hf' f hn.2).trans (hf f hn.1)

theorem Frame.mono (h : Frame rs fs s t) (hrs : rs ⊆ rs') (hfs : fs ⊆ fs') : Frame rs' fs' s t :=
  ⟨fun r hst hn => h.1 r hst fun hr => hn (hrs hr), fun f hn => h.2 f fun hf => hn (hfs hf)⟩

/-- A further change of listed registers and flags stays within the frame. -/
theorem Frame.extend (h : Frame rs fs s t) (h' : Frame rs' fs' t u) (hrs : rs' ⊆ rs) (hfs : fs' ⊆ fs) :
    Frame rs fs s u :=
  (h.trans h').mono (List.append_subset.2 ⟨List.Subset.refl _, hrs⟩) (List.append_subset.2 ⟨List.Subset.refl _, hfs⟩)

theorem Frame.keeps_pc (h : Frame rs fs s t) (hl : Reg.pcl ∉ rs) (hh : Reg.pch ∉ rs) : t.pc = s.pc := by
  have hlo : loByte t.pc = loByte s.pc := h.1 .pcl (by decide) hl
  have hhi : hiByte t.pc = hiByte s.pc := h.1 .pch (by decide) hh
  rw [← mkWord_hiByte_loByte t.pc, hlo, hhi, mkWord_hiByte_loByte]

theorem Kept.refl (rs : List Reg) (fs : List Flag) (s : State) : Kept rs fs s s :=
  ⟨fun _ _ _ => rfl, fun _ _ => rfl, rfl, rfl, rfl, rfl, rfl⟩

theorem SameControl.trans (h : SameControl s t) (h' : SameControl t u) : SameControl s u := by
  obtain ⟨hctl, hfault, hcycles, hrom, hsched⟩ := h
  obtain ⟨hctl', hfault', hcycles', hrom', hsched'⟩ := h'
  exact ⟨hctl'.trans hctl, hfault'.trans hfault, hcycles'.trans hcycles, hrom'.trans hrom, hsched'.trans hsched⟩

theorem Kept.trans (h : Kept rs fs s t) (h' : Kept rs' fs' t u) : Kept (rs ++ rs') (fs ++ fs') s u := by
  obtain ⟨hr, hf⟩ := h.frame.trans h'.frame
  exact ⟨hr, hf, h.2.2.trans h'.2.2⟩

end Frame

/-! #### One lemma per state update -/

theorem setFlag_kept (f : Flag) (v : Bool) (s : State) : Kept [] [f] s (s.setFlag f v) :=
  ⟨fun _ hst _ => readReg_setFlag hst f v s,
    fun g hg => by rw [flag_setFlag, if_neg (List.ne_of_not_mem_cons hg)], rfl, rfl, rfl, rfl, rfl⟩

theorem setNZ_kept (v : Byte) (s : State) : Kept [] [.n, .z] s (setNZ v s) :=
  (setFlag_kept .n _ s).trans (setFlag_kept .z _ _)

theorem setMask_kept (f : Flag) (s : State) : Kept [] [f] s (setMask f.mask s) := setFlag_kept f true s

theorem clrMask_kept (f : Flag) (s : State) : Kept [] [f] s (clrMask f.mask s) := setFlag_kept f false s

theorem writeReg_kept {r : Reg} (hr : r ≠ .st) (v : Byte) (s : State) : Kept [r] [] s (writeReg r v s) :=
  ⟨fun _ _ hq => readReg_writeReg_other (List.ne_of_not_mem_cons hq) v s, fun f _ => flag_writeReg hr v s f,
    by simp [SameControl]⟩

theorem setPc_kept (w : Word) (s : State) : Kept [.pcl, .pch] [] s (s.setPc w) :=
  ⟨fun r _ hr => by
    cases r with
    | pcl | pch => simp at hr
    | _ => rfl, fun _ _ => rfl, rfl, rfl, rfl, rfl, rfl⟩

theorem addPenalty_kept (n : Nat) (s : State) : Kept [] [] s (s.addPenalty n) :=
  ⟨fun r _ _ => by cases r <;> rfl, fun _ _ => rfl, rfl, rfl, rfl, rfl, rfl⟩

theorem memTouch_kept (a : Word) (s : State) : Kept [] [] s (memTouch a s) :=
  ⟨fun r _ _ => readReg_memTouch r a s, fun f _ => memTouch_flag a s f, by simp [SameControl]⟩

theorem memWrite_kept (a : Word) (v : Byte) (s : State) : Kept [] [] s (memWrite a v s) :=
  ⟨fun r _ _ => readReg_memWrite r a v s, fun f _ => memWrite_flag a v s f, by simp [SameControl]⟩

theorem ea_kept (m : Mem) (s : State) : Kept [] [] s (ea m s).2 :=
  ⟨fun r _ _ => readReg_ea r m s, fun f _ => ea_flag m s f, by simp [SameControl]⟩

theorem loadOperand_kept (src : Src) (s : State) : Kept [] [] s (loadOperand src s).2 :=
  ⟨fun r _ _ => readReg_loadOperand r src s, fun f _ => loadOperand_flag src s f, by simp [SameControl]⟩

/-! #### One lemma per family of instructions that cannot fault -/

theorem load_kept {r : Reg} (hr : r ≠ .st) (src : Src) (s : State) : Kept [r] [.n, .z] s (load r src s) :=
  ((loadOperand_kept src s).trans (writeReg_kept hr _ _)).trans (setNZ_kept _ _)

theorem store_kept (r : Reg) (m : Mem) (s : State) : Kept [] [] s (store r m s) :=
  (ea_kept m s).trans (memWrite_kept _ _ _)

theorem transfer_kept {des : Reg} (hst : des ≠ .st) (hsp : des ≠ .sp) (src : Reg) (s : State) :
    Kept [des] [.n, .z] s (transfer des src s) := by
  rw [transfer, if_neg hsp]
  exact (writeReg_kept hst _ s).trans (setNZ_kept _ _)

theorem transfer_sp_kept (src : Reg) (s : State) : Kept [.sp] [] s (transfer .sp src s) :=
  writeReg_kept (by decide) _ s

theorem addToA_kept (f : Byte → Byte → Bool → AddResult) (src : Src) (s : State) :
    Kept [.a] [.c, .v, .n, .z] s (addToA f src s) :=
  ((((loadOperand_kept src s).trans (setFlag_kept .c _ _)).trans (setFlag_kept .v _ _)).trans
    (writeReg_kept (by decide) _ _)).trans (setNZ_kept _ _)

theorem logic_kept (f : Byte → Byte → Byte) (src : Src) (s : State) : Kept [.a] [.n, .z] s (logic f src s) :=
  ((loadOperand_kept src s).trans (writeReg_kept (by decide) _ _)).trans (setNZ_kept _ _)

theorem compareReg_kept (r : Reg) (src : Src) (s : State) : Kept [] [.c, .n, .z] s (compareReg r src s) :=
  ((loadOperand_kept src s).trans (setFlag_kept .c _ _)).trans (setNZ_kept _ _)

theorem bitTest_kept (src : Src) (s : State) : Kept [] [.z, .n, .v] s (bitTest src s) :=
  (((loadOperand_kept src s).trans (setFlag_kept .z _ _)).trans (setFlag_kept .n _ _)).trans (setFlag_kept .v _ _)

theorem shiftA_kept (op : Byte → Bool → Byte × Bool) (s : State) : Kept [.a] [.c, .n, .z] s (shiftA op s) :=
  ((setFlag_kept .c _ s).trans (setNZ_kept _ _)).trans (writeReg_kept (by decide) _ _)

theorem shiftMem_kept (op : Byte → Bool → Byte × Bool) (m : Mem) (s : State) :
    Kept [] [.c, .n, .z] s (shiftMem op m s) :=
  ((((ea_kept m s).trans (memTouch_kept _ _)).trans (setFlag_kept .c _ _)).trans (setNZ_kept _ _)).trans
    (memWrite_kept _ _ _)

theorem stepMem_kept (f : Byte → Byte) (m : Mem) (s : State) : Kept [] [.n, .z] s (stepMem f m s) :=
  (((ea_kept m s).trans (memTouch_kept _ _)).trans (setNZ_kept _ _)).trans (memWrite_kept _ _ _)

theorem stepReg_kept (f : Byte → Byte) {r : Reg} (hr : r ≠ .st) (s : State) : Kept [r] [.n, .z] s (stepReg f r s) :=
  (writeReg_kept hr _ s).trans (setNZ_kept _ _)

theorem takeBranch_kept (off : Byte) (s : State) : Kept [.pcl, .pch] [] s (takeBranch off s) :=
  (setPc_kept _ s).trans (addPenalty_kept 1 _)

theorem brcSet_kept (mask off : Byte) (s : State) : Kept [.pcl, .pch] [] s (brcSet mask off s) := by
  unfold brcSet
  split
  · exact takeBranch_kept off s
  · exact Kept.refl _ _ s

theorem brcRst_kept (mask off : Byte) (s : State) : Kept [.pcl, .pch] [] s (brcRst mask off s) := by
  unfold brcRst
  split
  · exact takeBranch_kept off s
  · exact Kept.refl _ _ s

theorem jump_kept (m : Mem) (s : State) : Kept [.pcl, .pch] [] s (jump m s) :=
  (ea_kept m s).trans (setPc_kept _ _)

/-! #### Operations that may raise -/

section Ends

variable {α β : Type} {E : State → Prop}

/-- What holds however an operation that may raise ends: `E` of the state it raised in, `P` of the result it answered. -/
def Ends (E : State → Prop) (P : α → Prop) : Except State α → Prop
  | .error s => E s
  | .ok a => P a

theorem Ends.bind {P : α → Prop} {Q : β → Prop} {x : Except State α} {f : α → Except State β} (hx : Ends E P x)
    (hf : ∀ a, P a → Ends E Q (f a)) : Ends E Q (x.bind f) := by
  cases x with
  | error s => exact hx
  | ok a => exact hf a hx

/-- `settle` answers the state either way (R254). -/
theorem Ends.settle {P : State → Prop} {x : Except State State} {t : State} (hx : Ends E P x)
    (ht : settle x = .next t) : E t ∨ P t := by
  cases x with
  | error s => cases ht; exact .inl hx
  | ok s => cases ht; exact .inr hx

theorem Ends.settle_self {x : Except State State} {t : State} (hx : Ends E E x) (ht : Machine.settle x = .next t) :
    E t :=
  (hx.settle ht).elim id id

end Ends

section StackFrame

variable {rs : List Reg} {fs : List Flag} {s₀ s : State}

/-- A push stays within a frame that lists SP, whether it raises or not: the raise keeps every register and flag, the
write changes SP and RAM (R140). -/
theorem push_frame (h : Frame rs fs s₀ s) (hsp : Reg.sp ∈ rs) (opc : Word) (n : Nat) (v : Byte) :
    Ends (Frame rs fs s₀) (Frame rs fs s₀) (push opc n v s) := by
  rcases push_cases opc n v s with ⟨_, e⟩ | ⟨_, e⟩ <;> rw [e]
  · exact h
  · exact h.extend (writeReg_kept (r := .sp) (by decide) (s.sp - 1) s).frame (by simpa) (List.nil_subset _)

theorem pop_frame (h : Frame rs fs s₀ s) (hsp : Reg.sp ∈ rs) (opc : Word) (n : Nat) :
    Ends (Frame rs fs s₀) (fun p => Frame rs fs s₀ p.2) (pop opc n s) := by
  rcases pop_cases opc n s with ⟨_, e⟩ | ⟨_, e⟩ <;> rw [e]
  · exact h
  · exact h.extend (writeReg_kept (r := .sp) (by decide) (s.sp + 1) s).frame (by simpa) (List.nil_subset _)

end StackFrame

end Sys2Proof.Machine

/-! ### What each instruction writes -/

namespace Sys2Proof.Machine

/-! #### The families that may raise -/

section StackFrame

variable (s : State)

theorem pushA_frame : Ends (Frame [.sp] [] s) (Frame [.sp] [] s) (pushA s) :=
  push_frame (.refl _ _ s) (by decide) _ _ _

theorem pushStatus_frame : Ends (Frame [.sp] [] s) (Frame [.sp] [] s) (pushStatus s) :=
  push_frame (.refl _ _ s) (by decide) _ _ _

theorem pullA_frame : Ends (Frame [.sp, .a] [.n, .z] s) (Frame [.sp, .a] [.n, .z] s) (pullA s) :=
  (pop_frame (.refl _ _ s) (by decide) _ _).bind fun p hp =>
    hp.extend ((writeReg_kept (r := .a) (by decide) p.1 p.2).trans (setNZ_kept p.1 _)).frame (by simp) (by simp)

theorem writeReg_st_frame (v : Byte) : Frame [] allFlags s (writeReg .st v s) :=
  ⟨fun _ hst _ => readReg_writeReg_other hst v s, fun f hf => absurd (by cases f <;> decide) hf⟩

theorem pullStatus_frame : Ends (Frame [.sp] allFlags s) (Frame [.sp] allFlags s) (pullStatus s) :=
  (pop_frame (.refl _ _ s) (by decide) _ _).bind fun p hp =>
    hp.extend (writeReg_st_frame p.2 p.1) (by simp) (by simp)

theorem callSub_frame (b1 b2 : Byte) :
    Ends (Frame [.sp, .pcl, .pch] [] s) (Frame [.sp, .pcl, .pch] [] s) (callSub b1 b2 s) :=
  (push_frame (.refl _ _ s) (by decide) _ _ _).bind fun _ h1 =>
    (push_frame h1 (by decide) _ _ _).bind fun s2 h2 => h2.extend (setPc_kept _ s2).frame (by simp) (by simp)

theorem returnSub_frame : Ends (Frame [.sp, .pcl, .pch] [] s) (Frame [.sp, .pcl, .pch] [] s) (returnSub s) :=
  (pop_frame (.refl _ _ s) (by decide) _ _).bind fun _ hlo =>
    (pop_frame hlo (by decide) _ _).bind fun hi hhi => hhi.extend (setPc_kept _ hi.2).frame (by simp) (by simp)

theorem intEntry_frame {s₀ : State} (h : Frame [.sp, .pcl, .pch] [.i] s₀ s) (opc vector : Word) (brk : Bool) :
    Ends (Frame [.sp, .pcl, .pch] [.i] s₀) (Frame [.sp, .pcl, .pch] [.i] s₀) (intEntry opc vector brk s) :=
  (push_frame h (by decide) _ _ _).bind fun _ h1 =>
    (push_frame h1 (by decide) _ _ _).bind fun _ h2 =>
      (push_frame h2 (by decide) _ _ _).bind fun s3 h3 =>
        h3.extend ((((setFlag_kept .i true s3).trans (memTouch_kept _ _)).trans (memTouch_kept _ _)).trans
          (setPc_kept _ _)).frame (by simp) (by simp)

theorem softInterrupt_frame :
    Ends (Frame [.sp, .pcl, .pch] [.i] s) (Frame [.sp, .pcl, .pch] [.i] s) (softInterrupt s) :=
  intEntry_frame _ ((setPc_kept _ s).frame.mono (by simp) (by simp)) _ _ _

theorem interruptReturn_frame :
    Ends (Frame [.sp, .pcl, .pch] allFlags s) (Frame [.sp, .pcl, .pch] allFlags s) (interruptReturn s) :=
  (pop_frame (.refl _ _ s) (by decide) _ _).bind fun p hp =>
    (pop_frame (hp.extend (writeReg_st_frame p.2 p.1) (by simp) (by simp)) (by decide) _ _).bind fun _ hlo =>
      (pop_frame hlo (by decide) _ _).bind fun hi hhi => hhi.extend (setPc_kept _ hi.2).frame (by simp) (by simp)

end StackFrame

/-! #### The access table of R42 -/

/-- The registers an instruction may write, `pc` beyond its fetch as its two slots (R42's access table). -/
def regsWritten (m : Mnemonic) (o : Operand) : List Reg :=
  match m with
  | .lda | .txa | .tya | .adc | .sbc | .and | .eor | .ora => [.a]
  | .asl | .lsr | .rol | .ror => if o = .acc then [.a] else []
  | .ldx | .tax | .tsx | .inx | .dex => [.x]
  | .ldy | .tay | .iny | .dey => [.y]
  | .txs | .pha | .php | .plp => [.sp]
  | .pla => [.sp, .a]
  | .bcc | .bcs | .beq | .bne | .bmi | .bpl | .bvc | .bvs | .jmp => [.pcl, .pch]
  | .jsr | .rts | .brk | .rti => [.sp, .pcl, .pch]
  | .sta | .stx | .sty | .cmp | .cpx | .cpy | .bit | .inc | .dec => []
  | .sec | .clc | .sei | .cli | .sed | .cld | .clv | .nop => []

/-- The flags an instruction may write (R26 to R31). -/
def flagsWritten : Mnemonic → List Flag
  | .lda | .ldx | .ldy | .tax | .tay | .txa | .tya | .tsx | .pla => [.n, .z]
  | .and | .eor | .ora | .inc | .dec | .inx | .iny | .dex | .dey => [.n, .z]
  | .adc | .sbc => [.c, .v, .n, .z]
  | .cmp | .cpx | .cpy | .asl | .lsr | .rol | .ror => [.c, .n, .z]
  | .bit => [.z, .n, .v]
  | .sec | .clc => [.c]
  | .sei | .cli | .brk => [.i]
  | .sed | .cld => [.d]
  | .clv => [.v]
  | .plp | .rti => allFlags
  | .sta | .stx | .sty | .txs | .pha | .php | .nop => []
  | .bcc | .bcs | .beq | .bne | .bmi | .bpl | .bvc | .bvs | .jmp | .jsr | .rts => []

/-- The two tables bound what every instruction writes, also where it raises a fault (R42). -/
theorem Runs.frame {m : Mnemonic} {o : Operand} {f : State → Result} (h : Runs m o f) {s t : State}
    (ht : f s = .next t) : Frame (regsWritten m o) (flagsWritten m) s t := by
  cases h with
  | pha => exact (pushA_frame s).settle_self ht
  | php => exact (pushStatus_frame s).settle_self ht
  | pla => exact (pullA_frame s).settle_self ht
  | plp => exact (pullStatus_frame s).settle_self ht
  | jsr b1 b2 => exact (callSub_frame s b1 b2).settle_self ht
  | rts => exact (returnSub_frame s).settle_self ht
  | brk => exact (softInterrupt_frame s).settle_self ht
  | rti => exact (interruptReturn_frame s).settle_self ht
  | lda src | ldx src | ldy src => cases ht; exact (load_kept (by decide) src s).frame
  | sta m | stx m | sty m => cases ht; exact (store_kept _ m s).frame
  | tax | tay | txa | tya | tsx => cases ht; exact (transfer_kept (by decide) (by decide) _ s).frame
  | txs => cases ht; exact (transfer_sp_kept _ s).frame
  | adc src | sbc src => cases ht; exact (addToA_kept _ src s).frame
  | and src | eor src | ora src => cases ht; exact (logic_kept _ src s).frame
  | cmp src | cpx src | cpy src => cases ht; exact (compareReg_kept _ src s).frame
  | bit src => cases ht; exact (bitTest_kept src s).frame
  | aslA | lsrA | rolA | rorA => cases ht; exact (shiftA_kept _ s).frame
  | asl m | lsr m | rol m | ror m => cases ht; exact (shiftMem_kept _ m s).frame
  | inc m | dec m => cases ht; exact (stepMem_kept _ m s).frame
  | inx | iny | dex | dey => cases ht; exact (stepReg_kept _ (by decide) s).frame
  | sec | sei | sed => cases ht; exact (setMask_kept _ s).frame
  | clc | cli | cld | clv => cases ht; exact (clrMask_kept _ s).frame
  | nop => cases ht; exact .refl _ _ s
  | bcs b1 | beq b1 | bmi b1 | bvs b1 => cases ht; exact (brcSet_kept _ b1 s).frame
  | bcc b1 | bne b1 | bpl b1 | bvc b1 => cases ht; exact (brcRst_kept _ b1 s).frame
  | jmp m => cases ht; exact (jump_kept m s).frame

theorem exec_frame {i : Instr} {s t : State} (h : exec i s = .next t) :
    Frame (regsWritten i.op i.operand) (flagsWritten i.op) s t :=
  (exec_runs i).frame h

section Tables

variable {m : Mnemonic} {o : Operand}

theorem a_mem_regsWritten (h : .a ∈ regsWritten m o) :
    m ∈ [.lda, .pla, .txa, .tya, .adc, .sbc, .and, .eor, .ora] ∨ o = .acc := by
  by_cases ho : o = .acc
  · exact .inr ho
  · left
    cases m <;> simp [regsWritten, ho] at h ⊢

theorem x_mem_regsWritten (h : .x ∈ regsWritten m o) : m ∈ [.ldx, .tax, .tsx, .inx, .dex] := by
  cases m <;> simp [regsWritten] at h ⊢

theorem y_mem_regsWritten (h : .y ∈ regsWritten m o) : m ∈ [.ldy, .tay, .iny, .dey] := by
  cases m <;> simp [regsWritten] at h ⊢

theorem sp_mem_regsWritten (h : .sp ∈ regsWritten m o) :
    m ∈ [.txs, .pha, .php, .pla, .plp, .jsr, .rts, .brk, .rti] := by
  cases m <;> simp [regsWritten] at h ⊢

theorem pc_mem_regsWritten (h : .pcl ∈ regsWritten m o ∨ .pch ∈ regsWritten m o) :
    m ∈ [.bcc, .bcs, .beq, .bne, .bmi, .bpl, .bvc, .bvs, .jmp, .jsr, .rts, .brk, .rti] := by
  cases m <;> simp [regsWritten] at h ⊢

end Tables

/-- Settles O53: the registers written are those of `regsWritten`, and each clause reads off one column of that table. -/
theorem registerWriters : Obligations.RegisterWriters := by
  unfold Obligations.RegisterWriters
  intro i s t h
  have hf := exec_frame h
  have hr := hf.1
  exact ⟨fun hop hacc => hr .a (by decide) fun hm => (a_mem_regsWritten hm).elim hop hacc,
    fun hop => hr .x (by decide) fun hm => hop (x_mem_regsWritten hm),
    fun hop => hr .y (by decide) fun hm => hop (y_mem_regsWritten hm),
    fun hop => hr .sp (by decide) fun hm => hop (sp_mem_regsWritten hm),
    fun hop => hf.keeps_pc (fun hm => hop (pc_mem_regsWritten (.inl hm))) fun hm => hop (pc_mem_regsWritten (.inr hm))⟩

theorem nz_notMem_flagsWritten {m : Mnemonic}
    (h : m ∈ [.sta, .stx, .sty, .txs, .pha, .php, .bcc, .bcs, .beq, .bne, .bmi, .bpl, .bvc, .bvs, .jmp, .jsr, .rts,
      .brk, .nop, .sec, .clc, .sei, .cli, .sed, .cld, .clv]) : .n ∉ flagsWritten m ∧ .z ∉ flagsWritten m := by
  revert h; cases m <;> decide

theorem c_mem_flagsWritten {m : Mnemonic} : .c ∈ flagsWritten m ↔
    m ∈ [.adc, .sbc, .cmp, .cpx, .cpy, .asl, .lsr, .rol, .ror, .sec, .clc, .plp, .rti] := by
  cases m <;> decide

theorem v_mem_flagsWritten {m : Mnemonic} : .v ∈ flagsWritten m ↔ m ∈ [.adc, .sbc, .bit, .clv, .plp, .rti] := by
  cases m <;> decide

theorem i_mem_flagsWritten {m : Mnemonic} : .i ∈ flagsWritten m ↔ m ∈ [.brk, .sei, .cli, .plp, .rti] := by
  cases m <;> decide

theorem d_mem_flagsWritten {m : Mnemonic} : .d ∈ flagsWritten m ↔ m ∈ [.sed, .cld, .plp, .rti] := by
  cases m <;> decide

theorem b_mem_flagsWritten {m : Mnemonic} : .b ∈ flagsWritten m ↔ m ∈ [.plp, .rti] := by
  cases m <;> decide

theorem u_mem_flagsWritten {m : Mnemonic} : .u ∈ flagsWritten m ↔ m ∈ [.plp, .rti] := by
  cases m <;> decide

/-- Settles O54: the flags written are those of `flagsWritten`, and each clause reads off one column of that table. -/
theorem flagWriters : Obligations.FlagWriters := by
  unfold Obligations.FlagWriters
  intro i s t h
  obtain ⟨-, hf⟩ := exec_frame h
  exact ⟨fun hop => ⟨hf .n (nz_notMem_flagsWritten hop).1, hf .z (nz_notMem_flagsWritten hop).2⟩,
    fun hop => hf .c (mt c_mem_flagsWritten.1 hop),
    fun hop => hf .v (mt v_mem_flagsWritten.1 hop),
    fun hop => hf .i (mt i_mem_flagsWritten.1 hop),
    fun hop => hf .d (mt d_mem_flagsWritten.1 hop),
    fun hop => ⟨hf .b (mt b_mem_flagsWritten.1 hop), hf .u (mt u_mem_flagsWritten.1 hop)⟩⟩

end Sys2Proof.Machine

/-! ### The invariant -/

namespace Sys2Proof.Machine

/-! Inside a `Step` the penalty counter may be positive, so the invariant is split: `Sound` is its part about storage and
trace, `Running` adds a controller in Run with no fault recorded, and `Ready` is the invariant in Run. -/

/-- Storage in canonical form and peripheral events in the window (R35, R54, R56). -/
def State.Sound (s : State) : Prop := s.ramWf = true ∧ s.romWf = true ∧ s.events.all inWindow = true

/-- Sound, in Run, with no fault recorded; nothing is said of the penalty counter (R37). -/
def State.Running (s : State) : Prop := s.Sound ∧ s.ctl = .run ∧ s.fault = none

/-- Running with no penalty outstanding. -/
def State.Ready (s : State) : Prop := s.Running ∧ s.penalty = 0

section Invariant

variable {s t : State}

theorem State.Running.inv (h : s.Running) (hp : s.penalty = 0) : s.Inv := by
  obtain ⟨⟨hram, hrom, hev⟩, hctl, hfault⟩ := h
  refine ⟨hram, hrom, ?_, ?_, hp, hev⟩
  · simp [hctl, hfault]
  · simp [hfault]

theorem State.Ready.inv (h : s.Ready) : s.Inv := h.1.inv h.2

theorem State.Inv.sound (h : s.Inv) : s.Sound := by
  obtain ⟨hram, hrom, -, -, -, hev⟩ := h
  exact ⟨hram, hrom, hev⟩

theorem State.Inv.ready (h : s.Inv) (hctl : s.ctl = .run) : s.Ready := by
  have hs := h.sound
  obtain ⟨-, -, hfault, -, hp, -⟩ := h
  refine ⟨⟨hs, hctl, ?_⟩, hp⟩
  simpa [hctl] using hfault

/-- Raising a legal fault in a running state ends in the invariant (R254). -/
theorem State.Ready.inv_raise (h : s.Ready) {f : FaultInfo} (hf : f.legal = true) : (raise f s).Inv := by
  obtain ⟨⟨⟨hram, hrom, hev⟩, -, -⟩, hp⟩ := h
  exact ⟨hram, hrom, by simp, by simpa using hf, hp, hev⟩

/-- Calling an entry point only lengthens the trace by a marker (R73). -/
theorem State.Inv.beginTransition (h : s.Inv) : (beginTransition s).Inv := by
  obtain ⟨hram, hrom, hfault, hlegal, hp, hev⟩ := h
  exact ⟨hram, hrom, hfault, hlegal, hp, by simp [Machine.beginTransition, hev, inWindow]⟩

theorem State.Inv.tick (h : s.Inv) : (tick s).Inv := h

/-! #### What keeps a state running -/

@[simp] theorem running_setFlag (f : Flag) (v : Bool) : (s.setFlag f v).Running ↔ s.Running := Iff.rfl
@[simp] theorem running_setNZ (v : Byte) : (setNZ v s).Running ↔ s.Running := Iff.rfl
@[simp] theorem running_setMask (m : Byte) : (setMask m s).Running ↔ s.Running := Iff.rfl
@[simp] theorem running_clrMask (m : Byte) : (clrMask m s).Running ↔ s.Running := Iff.rfl
@[simp] theorem running_setPc (w : Word) : (s.setPc w).Running ↔ s.Running := Iff.rfl
@[simp] theorem running_addPenalty (n : Nat) : (s.addPenalty n).Running ↔ s.Running := Iff.rfl
@[simp] theorem running_writeReg (r : Reg) (v : Byte) : (writeReg r v s).Running ↔ s.Running := by cases r <;> rfl

/-- The register behind an address of the peripheral window is one of 0x2000 to 0x2007 (R54). -/
theorem route_periph_bounds {a reg : Word} (h : route a = .periph reg) :
    0x2000 ≤ reg.toNat ∧ reg.toNat ≤ 0x2007 := by
  rcases route_cases a with ⟨_, e⟩ | ⟨hlo, hhi, e⟩ | ⟨_, _, e⟩ | ⟨_, _, e⟩ | ⟨_, e⟩ <;> rw [e] at h <;> cases h
  have hbit : (a &&& 0x2007).toNat.testBit 13 = true := by
    have hdiv : a.toNat / 2 ^ 13 = 1 := by omega
    rw [BitVec.toNat_and, Nat.testBit_and, Nat.testBit_eq_decide_div_mod_eq, hdiv]
    decide
  refine ⟨Nat.ge_two_pow_of_testBit hbit, ?_⟩
  rw [BitVec.toNat_and]
  exact Nat.and_le_right

theorem inWindow_pr {a reg : Word} (h : route a = .periph reg) (v : Byte) : inWindow (.pr reg v) = true := by
  simp [inWindow, route_periph_bounds h]

theorem inWindow_pw {a reg : Word} (h : route a = .periph reg) (v : Byte) : inWindow (.pw reg v) = true := by
  simp [inWindow, route_periph_bounds h]

/-- A bus read appends at most an event of the window (R54, R61). -/
@[simp] theorem running_memTouch (a : Word) : (memTouch a s).Running ↔ s.Running := by
  unfold memTouch
  split
  · simp [State.Running, State.Sound, State.ramWf, State.romWf, inWindow_pr ‹_›]
  · rfl

/-- A bus write keeps RAM canonical and appends at most an event of the window (R52, R54). -/
theorem State.Running.memWrite (h : s.Running) (a : Word) (v : Byte) : (memWrite a v s).Running := by
  obtain ⟨⟨hram, hrom, hev⟩, hctl, hfault⟩ := h
  unfold Machine.memWrite
  split
  · next i hr => exact ⟨⟨Memory.wf_write hram v (Nat.zero_le i) (route_ram_lt hr), hrom, hev⟩, hctl, hfault⟩
  · next reg hr => exact ⟨⟨hram, hrom, by simp [hev, inWindow_pw hr]⟩, hctl, hfault⟩
  all_goals exact ⟨⟨hram, hrom, hev⟩, hctl, hfault⟩

@[simp] theorem running_readPtr (a : Word) : (readPtr a s).2.Running ↔ s.Running := by simp [readPtr, memRead]

@[simp] theorem running_read16 (a : Word) : (read16 a s).2.Running ↔ s.Running := by simp [read16, memRead]

@[simp] theorem running_fetch8 : (fetch8 s).2.Running ↔ s.Running := by simp [fetch8, memRead]

@[simp] theorem running_getAddr (mode : Mode) (addr : Word) (off : Byte) :
    (getAddr mode addr off s).2.Running ↔ s.Running := by
  cases mode <;> simp [getAddr]

@[simp] theorem running_ea (m : Mem) : (ea m s).2.Running ↔ s.Running := by
  cases m <;> exact running_getAddr _ _ _

@[simp] theorem running_loadOperand (src : Src) : (loadOperand src s).2.Running ↔ s.Running := by
  cases src <;> simp [loadOperand, memRead]

/-! #### The operations that may raise -/

/-- A push faults with a legal record or leaves the machine running: the slot it writes lies in RAM (R62, R140). -/
theorem push_ready (h : s.Ready) {n : Nat} (hn : 1 ≤ n ∧ n ≤ 3) (opc : Word) (v : Byte) :
    Ends State.Inv State.Ready (push opc n v s) := by
  rcases push_cases opc n v s with ⟨_, e⟩ | ⟨_, e⟩ <;> rw [e]
  · exact h.inv_raise (by simp [FaultInfo.legal, hn])
  · obtain ⟨⟨⟨hram, hrom, hev⟩, hctl, hfault⟩, hp⟩ := h
    have hsp := s.sp.isLt
    exact ⟨⟨⟨Memory.wf_write hram v (Nat.zero_le _) (by rw [Config.ramSize]; omega), hrom, hev⟩, hctl, hfault⟩, hp⟩

theorem pop_ready (h : s.Ready) {n : Nat} (hn : 1 ≤ n ∧ n ≤ 3) (opc : Word) :
    Ends State.Inv (fun p => p.2.Ready) (pop opc n s) := by
  rcases pop_cases opc n s with ⟨_, e⟩ | ⟨_, e⟩ <;> rw [e]
  · exact h.inv_raise (by simp [FaultInfo.legal, hn])
  · exact h

theorem intEntry_ready (h : s.Ready) (opc vector : Word) (brk : Bool) :
    Ends State.Inv State.Ready (intEntry opc vector brk s) :=
  (push_ready h (by decide) _ _).bind fun _ h1 =>
    (push_ready h1 (by decide) _ _).bind fun _ h2 =>
      (push_ready h2 (by decide) _ _).bind fun s3 h3 => by
        obtain ⟨hrun, hp⟩ := h3
        exact ⟨by simpa using hrun, by simpa [read16, memRead] using hp⟩

theorem intReturn_ready (h : s.Ready) (opc : Word) : Ends State.Inv State.Ready (intReturn opc s) :=
  (pop_ready h (by decide) _).bind fun p hst =>
    (pop_ready (s := writeReg .st p.1 p.2) hst (by decide) _).bind fun _ hlo =>
      (pop_ready hlo (by decide) _).bind fun _ hhi => hhi

theorem pushA_ready (h : s.Ready) : Ends State.Inv State.Ready (pushA s) := push_ready h (by decide) _ _

theorem pushStatus_ready (h : s.Ready) : Ends State.Inv State.Ready (pushStatus s) := push_ready h (by decide) _ _

theorem pullA_ready (h : s.Ready) : Ends State.Inv State.Ready (pullA s) :=
  (pop_ready h (by decide) _).bind fun _ hp => hp

theorem pullStatus_ready (h : s.Ready) : Ends State.Inv State.Ready (pullStatus s) :=
  (pop_ready h (by decide) _).bind fun _ hp => hp

theorem callSub_ready (h : s.Ready) (b1 b2 : Byte) : Ends State.Inv State.Ready (callSub b1 b2 s) :=
  (push_ready h (by decide) _ _).bind fun _ h1 => (push_ready h1 (by decide) _ _).bind fun _ h2 => h2

theorem returnSub_ready (h : s.Ready) : Ends State.Inv State.Ready (returnSub s) :=
  (pop_ready h (by decide) _).bind fun _ hlo => (pop_ready hlo (by decide) _).bind fun _ hhi => hhi

theorem softInterrupt_ready (h : s.Ready) : Ends State.Inv State.Ready (softInterrupt s) :=
  intEntry_ready (s := s.setPc (s.pc + 1)) h _ _ _

/-! #### The families that cannot fault -/

theorem running_load (h : s.Running) (r : Reg) (src : Src) : (load r src s).Running := by simpa [load]

theorem running_store (h : s.Running) (r : Reg) (m : Mem) : (store r m s).Running :=
  ((running_ea m).2 h).memWrite _ _

theorem running_transfer (h : s.Running) (des src : Reg) : (transfer des src s).Running := by
  unfold transfer
  split <;> simpa

theorem running_addToA (h : s.Running) (f : Byte → Byte → Bool → AddResult) (src : Src) : (addToA f src s).Running := by
  simpa [addToA]

theorem running_logic (h : s.Running) (f : Byte → Byte → Byte) (src : Src) : (logic f src s).Running := by simpa [logic]

theorem running_compareReg (h : s.Running) (r : Reg) (src : Src) : (compareReg r src s).Running := by
  simpa [compareReg]

theorem running_bitTest (h : s.Running) (src : Src) : (bitTest src s).Running := by simpa [bitTest]

theorem running_shiftA (h : s.Running) (op : Byte → Bool → Byte × Bool) : (shiftA op s).Running := by simpa [shiftA]

theorem running_shiftMem (h : s.Running) (op : Byte → Bool → Byte × Bool) (m : Mem) : (shiftMem op m s).Running :=
  State.Running.memWrite (by simpa [memRead]) _ _

theorem running_stepMem (h : s.Running) (f : Byte → Byte) (m : Mem) : (stepMem f m s).Running :=
  State.Running.memWrite (by simpa [memRead]) _ _

theorem running_stepReg (h : s.Running) (f : Byte → Byte) (r : Reg) : (stepReg f r s).Running := by simpa [stepReg]

theorem running_brcSet (h : s.Running) (mask off : Byte) : (brcSet mask off s).Running := by
  unfold brcSet
  split <;> exact h

theorem running_brcRst (h : s.Running) (mask off : Byte) : (brcRst mask off s).Running := by
  unfold brcRst
  split <;> exact h

theorem running_jump (h : s.Running) (m : Mem) : (jump m s).Running := by simpa [jump]

/-! #### The step -/

/-- An instruction begun in the invariant either goes on in Run, its penalty not yet retired, or ends in the invariant:
the second is where it raised a fault. -/
theorem Runs.inv_or_running {m : Mnemonic} {o : Operand} {f : State → Result} (h : Runs m o f) (hs : s.Ready)
    (ht : f s = .next t) : t.Inv ∨ t.Running := by
  have hr := hs.1
  cases h with
  | pha => exact ((pushA_ready hs).settle ht).imp_right And.left
  | php => exact ((pushStatus_ready hs).settle ht).imp_right And.left
  | pla => exact ((pullA_ready hs).settle ht).imp_right And.left
  | plp => exact ((pullStatus_ready hs).settle ht).imp_right And.left
  | jsr b1 b2 => exact ((callSub_ready hs b1 b2).settle ht).imp_right And.left
  | rts => exact ((returnSub_ready hs).settle ht).imp_right And.left
  | brk => exact ((softInterrupt_ready hs).settle ht).imp_right And.left
  | rti => exact ((intReturn_ready hs _).settle ht).imp_right And.left
  | lda src | ldx src | ldy src => cases ht; exact .inr (running_load hr _ src)
  | sta m | stx m | sty m => cases ht; exact .inr (running_store hr _ m)
  | tax | tay | txa | tya | tsx | txs => cases ht; exact .inr (running_transfer hr _ _)
  | adc src | sbc src => cases ht; exact .inr (running_addToA hr _ src)
  | and src | eor src | ora src => cases ht; exact .inr (running_logic hr _ src)
  | cmp src | cpx src | cpy src => cases ht; exact .inr (running_compareReg hr _ src)
  | bit src => cases ht; exact .inr (running_bitTest hr src)
  | aslA | lsrA | rolA | rorA => cases ht; exact .inr (running_shiftA hr _)
  | asl m | lsr m | rol m | ror m => cases ht; exact .inr (running_shiftMem hr _ m)
  | inc m | dec m => cases ht; exact .inr (running_stepMem hr _ m)
  | inx | iny | dex | dey => cases ht; exact .inr (running_stepReg hr _ _)
  | sec | sei | sed => cases ht; exact .inr ((running_setMask _).2 hr)
  | clc | cli | cld | clv => cases ht; exact .inr ((running_clrMask _).2 hr)
  | nop => cases ht; exact .inr hr
  | bcs b1 | beq b1 | bmi b1 | bvs b1 => cases ht; exact .inr (running_brcSet hr _ b1)
  | bcc b1 | bne b1 | bpl b1 | bvc b1 => cases ht; exact .inr (running_brcRst hr _ b1)
  | jmp m => cases ht; exact .inr (running_jump hr m)

/-- The last line of `Step` clears the penalty, and so closes the invariant again (R230). -/
theorem retire_inv (h : s.Inv ∨ s.Running) (i : Instr) : (retire i s).Inv := by
  unfold retire
  split
  · next hctl =>
    have hr : s.Running := h.elim (fun hi => (hi.ready hctl).1) id
    exact State.Running.inv (s := { s with cyclesLeft := baseCycles i + s.penalty, penalty := 0 }) hr rfl
  · next hctl => exact h.resolve_right fun hr => hctl hr.2.1

theorem runInstr_inv (hs : s.Ready) {i : Instr} (ht : runInstr i s = .next t) : t.Inv := by
  unfold runInstr at ht
  split at ht <;> cases ht
  next u hu => exact retire_inv ((exec_runs i).inv_or_running hs hu) i

theorem fetch8_ready (h : s.Ready) : (fetch8 s).2.Ready :=
  ⟨running_fetch8.2 h.1, by simpa [fetch8, memRead] using h.2⟩

/-- An undefined opcode is a legal fault record; every other fetch leaves the machine running (R231 to R233, R253). -/
theorem fetchInstr_ready (h : s.Ready) : Ends State.Inv (fun p => p.2.Ready) (fetchInstr s) := by
  have h0 := fetch8_ready h
  unfold fetchInstr
  dsimp only
  split
  · next hl => exact h0.inv_raise (by simp [FaultInfo.legal, hl])
  · split
    · exact h0
    · exact fetch8_ready h0
    · exact fetch8_ready (fetch8_ready h0)

theorem stepInstr_inv (h : s.Inv) (ht : stepInstr s = .next t) : t.Inv := by
  unfold stepInstr at ht
  split at ht
  · next hctl =>
    have hf := fetchInstr_ready (h.ready hctl)
    split at ht
    · next e => rw [e] at hf; cases ht; exact hf
    · next e => rw [e] at hf; exact runInstr_inv hf ht
  · cases ht

theorem clock_inv (h : s.Inv) (ht : clock s = .next t) : t.Inv := by
  unfold clock at ht
  split at ht
  · split at ht <;> cases ht
    next u hu => exact (stepInstr_inv h hu).tick
  · cases ht; exact h.tick

theorem rst_inv (h : s.Inv) : (rst s).Inv := by
  obtain ⟨hram, hrom, hev⟩ := h.sound
  rw [rst_eq]
  exact State.Running.inv ⟨⟨hram, hrom, hev⟩, rfl, rfl⟩ rfl

theorem nmi_inv (h : s.Ready) (ht : nmi s = .next t) : t.Inv :=
  ((intEntry_ready h _ _ _).settle ht).elim id State.Ready.inv

theorem irq_inv (h : s.Ready) (ht : irq s = .next t) : t.Inv := by
  unfold irq at ht
  split at ht
  · cases ht; exact h.inv
  · exact ((intEntry_ready h _ _ _).settle ht).elim id State.Ready.inv

theorem transition_inv (h : s.Inv) {e : Entry} (ht : transition e s = .next t) : t.Inv := by
  cases e with
  | step => exact stepInstr_inv h ht
  | clock => exact clock_inv h ht
  | rst => cases ht; exact rst_inv h
  | nmi =>
    unfold transition at ht
    dsimp only at ht
    split at ht
    · next hctl => exact nmi_inv (h.ready hctl) ht
    · cases ht
  | irq =>
    unfold transition at ht
    dsimp only at ht
    split at ht
    · next hctl => exact irq_inv (h.ready hctl) ht
    · cases ht

end Invariant

/-- Settles O8: calling the entry point keeps the invariant, and so does every transition it may start. -/
theorem stepKeepsInvariant : Obligations.StepKeepsInvariant := by
  unfold Obligations.StepKeepsInvariant
  intro s t h ht
  exact transition_inv h.beginTransition ht

/-- Settles O7: `State.reset` is running, with nothing stored, traced or outstanding. -/
theorem invariantHoldsAtReset : Obligations.InvariantHoldsAtReset := by
  unfold Obligations.InvariantHoldsAtReset
  exact State.Running.inv ⟨⟨rfl, rfl, rfl⟩, rfl, rfl⟩ rfl

end Sys2Proof.Machine

/-! ### The bus -/

namespace Sys2Proof.Machine

section Bus

variable {a b : Word}

/-! #### The target of an address, range by range -/

theorem route_of_lt_0x2000 (h : a.toNat < 0x2000) : route a = .ram (a.toNat % 0x0800) := by
  rcases route_cases a with ⟨_, e⟩ | ⟨hlo, _⟩ | ⟨hlo, _⟩ | ⟨hlo, _⟩ | ⟨hlo, _⟩
  · exact e
  all_goals omega

/-- The mirroring mask of the peripheral window keeps the lowest three bits: the register is one of 0x2000 to 0x2007,
and agrees with the address mod 8 (R54). -/
theorem route_of_periph_window (hlo : 0x2000 ≤ a.toNat) (hhi : a.toNat < 0x4000) :
    route a = .periph (BitVec.ofNat 16 (0x2000 + a.toNat % 8)) := by
  rcases route_cases a with ⟨h, _⟩ | ⟨_, _, e⟩ | ⟨h, _⟩ | ⟨h, _⟩ | ⟨h, _⟩
  case inr.inl =>
    have hbounds := route_periph_bounds e
    have hmod : (a &&& 0x2007).toNat % 8 = a.toNat % 8 := by
      calc (a &&& 0x2007).toNat % 2 ^ 3 = (a.toNat % 2 ^ 3) &&& (2 ^ 3 - 1) := Nat.and_mod_two_pow
        _ = a.toNat % 2 ^ 3 := by rw [Nat.and_two_pow_sub_one_eq_mod, Nat.mod_mod]
    have hreg : (a &&& 0x2007).toNat = 0x2000 + a.toNat % 8 := by omega
    rw [e, ← hreg, BitVec.ofNat_toNat, BitVec.setWidth_eq]
  all_goals omega

theorem route_of_unmapped_range (hlo : 0x4000 ≤ a.toNat) (hhi : a.toNat < 0x8000) :
    route a = .unmappedIo ∨ route a = .unmapped := by
  rcases route_cases a with ⟨h, _⟩ | ⟨_, h, _⟩ | ⟨_, _, e⟩ | ⟨_, _, e⟩ | ⟨h, _⟩
  case inr.inr.inl => exact .inl e
  case inr.inr.inr.inl => exact .inr e
  all_goals omega

theorem route_of_ge_0x8000 (h : 0x8000 ≤ a.toNat) : route a = .cart a.toNat := by
  rcases route_cases a with ⟨hhi, _⟩ | ⟨_, hhi, _⟩ | ⟨_, hhi, _⟩ | ⟨_, hhi, _⟩ | ⟨_, e⟩
  case inr.inr.inr.inr => exact e
  all_goals omega

/-- A RAM address plus a multiple of the RAM size is routed to the same byte (R53). -/
theorem route_add_mirror (ha : a.toNat < 0x0800) {j : Nat} (hj : j < 4) :
    route (a + BitVec.ofNat 16 (0x0800 * j)) = .ram a.toNat := by
  have haddr : (a + BitVec.ofNat 16 (0x0800 * j)).toNat = a.toNat + 0x0800 * j := by
    rw [BitVec.toNat_add, BitVec.toNat_ofNat]
    omega
  rw [route_of_lt_0x2000 (by omega), haddr, Nat.add_mul_mod_self_left, Nat.mod_eq_of_lt ha]

/-! #### What the bus does at each target -/

section Targets

variable {s : State}

theorem memRead_of_ram {i : Nat} (h : route a = .ram i) : memRead a s = (s.ram.read i, s) := by
  simp only [memRead, memPeek, memTouch, h]

theorem memRead_of_periph {reg : Word} (h : route a = .periph reg) :
    memRead a s = (Config.periphRead s.events reg,
      { s with events := s.events ++ [.pr reg (Config.periphRead s.events reg)] }) := by
  simp only [memRead, memPeek, memTouch, h]

theorem memRead_of_unmapped (h : route a = .unmappedIo ∨ route a = .unmapped) : memRead a s = (0x00, s) := by
  rcases h with h | h <;> simp only [memRead, memPeek, memTouch, h]

theorem memRead_of_cart {k : Nat} (h : route a = .cart k) : memRead a s = (s.rom.read k, s) := by
  simp only [memRead, memPeek, memTouch, h]

theorem memWrite_of_ram {i : Nat} (h : route a = .ram i) (v : Byte) :
    memWrite a v s = { s with ram := s.ram.write i v } := by
  simp only [memWrite, h]

theorem memWrite_of_periph {reg : Word} (h : route a = .periph reg) (v : Byte) :
    memWrite a v s = { s with events := s.events ++ [.pw reg v] } := by
  simp only [memWrite, h]

theorem memWrite_of_ge_0x4000 (h : 0x4000 ≤ a.toNat) (v : Byte) : memWrite a v s = s := by
  by_cases hc : a.toNat < 0x8000
  · rcases route_of_unmapped_range h hc with e | e <;> simp only [memWrite, e]
  · simp only [memWrite, route_of_ge_0x8000 (not_lt.mp hc)]

end Targets

end Bus

/-- Settles O23: the target of each range, and what a read of that target gives. -/
theorem busReadRouting : Obligations.BusReadRouting := by
  unfold Obligations.BusReadRouting
  intro a s
  exact ⟨fun h => memRead_of_ram (route_of_lt_0x2000 h),
    fun ⟨hlo, hhi⟩ => ⟨_, memRead_of_periph (route_of_periph_window hlo hhi)⟩,
    fun ⟨hlo, hhi⟩ => memRead_of_unmapped (route_of_unmapped_range hlo hhi),
    fun h => memRead_of_cart (route_of_ge_0x8000 h)⟩

/-- Settles O24: in RAM the write is one of `Memory.write`, whose read laws give the two clauses. -/
theorem busWriteRouting : Obligations.BusWriteRouting := by
  unfold Obligations.BusWriteRouting
  intro a v s
  exact ⟨fun h hram => ⟨_, memWrite_of_ram (route_of_lt_0x2000 h) v, Memory.read_write_same hram _ v,
      fun _ hk => Memory.read_write_other s.ram v hk⟩,
    fun ⟨hlo, hhi⟩ => memWrite_of_periph (route_of_periph_window hlo hhi) v,
    fun h => memWrite_of_ge_0x4000 h v⟩

/-- Settles O25: both addresses are routed to the RAM byte `a`. -/
theorem ramIsMirrored : Obligations.RamIsMirrored := by
  unfold Obligations.RamIsMirrored
  intro a j k v s ha hj hk
  have h1 := route_add_mirror ha hj
  have h2 := route_add_mirror ha hk
  refine ⟨(memRead_of_ram h1).trans (memRead_of_ram h2).symm,
    (memWrite_of_ram h1 v).trans (memWrite_of_ram h2 v).symm, fun hram => ?_⟩
  calc memPeek (a + BitVec.ofNat 16 (0x0800 * k)) (memWrite (a + BitVec.ofNat 16 (0x0800 * j)) v s)
      = (s.ram.write a.toNat v).read a.toNat := by
        rw [memWrite_of_ram h1]
        exact congrArg Prod.fst (memRead_of_ram h2)
    _ = v := Memory.read_write_same hram _ v

/-! #### Two-byte reads -/

theorem hiByte_toNat (w : Word) : (hiByte w).toNat = w.toNat / 256 := by
  have hw := w.isLt
  rw [hiByte, BitVec.extractLsb'_toNat, Nat.shiftRight_eq_div_pow]
  omega

theorem loByte_toNat (w : Word) : (loByte w).toNat = w.toNat % 256 := by
  rw [loByte, BitVec.extractLsb'_toNat, Nat.shiftRight_zero]

/-- The same-page successor as arithmetic: the page stays, the low byte wraps (R104). -/
theorem nextInPage_toNat (a : Word) :
    (nextInPage a).toNat = a.toNat / 256 * 256 + (a.toNat % 256 + 1) % 256 := by
  rw [nextInPage, mkWord_toNat, BitVec.toNat_add, hiByte_toNat, loByte_toNat]
  rfl

/-- Settles O26: each read is the two bus reads in that order, and `nextInPage a` is the address in the same page. -/
theorem twoByteReads : Obligations.TwoByteReads := by
  unfold Obligations.TwoByteReads
  intro a s
  exact ⟨rfl, nextInPage a, nextInPage_toNat a, rfl⟩

end Sys2Proof.Machine

/-! ### What writes memory -/

namespace Sys2Proof.Machine

section ReadsOnly

variable {s t u : State}

/-! #### Instructions that only read -/

/-- Neither storage has changed, and the trace has grown by peripheral reads only. -/
def ReadsOnly (s t : State) : Prop :=
  t.ram = s.ram ∧ t.rom = s.rom ∧ ∃ l, t.events = s.events ++ l ∧ ∀ e ∈ l, ∃ addr v, e = Event.pr addr v

@[simp] theorem ReadsOnly.refl (s : State) : ReadsOnly s s := ⟨rfl, rfl, [], by simp, by simp⟩

theorem ReadsOnly.trans (h : ReadsOnly s t) (h' : ReadsOnly t u) : ReadsOnly s u := by
  obtain ⟨hram, hrom, l, hl, hpr⟩ := h
  obtain ⟨hram', hrom', l', hl', hpr'⟩ := h'
  refine ⟨hram'.trans hram, hrom'.trans hrom, l ++ l', by rw [hl', hl, List.append_assoc], fun e he => ?_⟩
  exact (List.mem_append.1 he).elim (hpr e) (hpr' e)

theorem ReadsOnly.rom_eq (h : ReadsOnly s t) : t.rom = s.rom := h.2.1

@[simp] theorem readsOnly_setFlag (f : Flag) (v : Bool) : ReadsOnly s (t.setFlag f v) ↔ ReadsOnly s t := Iff.rfl
@[simp] theorem readsOnly_setNZ (v : Byte) : ReadsOnly s (setNZ v t) ↔ ReadsOnly s t := Iff.rfl
@[simp] theorem readsOnly_setMask (m : Byte) : ReadsOnly s (setMask m t) ↔ ReadsOnly s t := Iff.rfl
@[simp] theorem readsOnly_clrMask (m : Byte) : ReadsOnly s (clrMask m t) ↔ ReadsOnly s t := Iff.rfl
@[simp] theorem readsOnly_setPc (w : Word) : ReadsOnly s (t.setPc w) ↔ ReadsOnly s t := Iff.rfl
@[simp] theorem readsOnly_writeReg (r : Reg) (v : Byte) : ReadsOnly s (writeReg r v t) ↔ ReadsOnly s t := by
  cases r <;> rfl

/-- A bus read appends one peripheral read or nothing (R54, R61). -/
@[simp] theorem readsOnly_memTouch (a : Word) (s : State) : ReadsOnly s (memTouch a s) := by
  unfold memTouch
  split
  · next reg _ => exact ⟨rfl, rfl, [.pr reg (Config.periphRead s.events reg)], rfl, by simp⟩
  · exact .refl s

@[simp] theorem readsOnly_readPtr (a : Word) (s : State) : ReadsOnly s (readPtr a s).2 :=
  (readsOnly_memTouch a s).trans (readsOnly_memTouch _ _)

@[simp] theorem readsOnly_getAddr (mode : Mode) (addr : Word) (off : Byte) (s : State) :
    ReadsOnly s (getAddr mode addr off s).2 := by
  cases mode with
  | ind | iix | ixi => exact readsOnly_readPtr _ s
  | abs | abx | aby | rel | zer | zex | zey => exact .refl s

@[simp] theorem readsOnly_ea (m : Mem) (s : State) : ReadsOnly s (ea m s).2 := by
  cases m <;> exact readsOnly_getAddr _ _ _ s

@[simp] theorem readsOnly_loadOperand (src : Src) (s : State) : ReadsOnly s (loadOperand src s).2 := by
  cases src with
  | imm b1 => exact .refl s
  | mem m => exact (readsOnly_ea m s).trans (readsOnly_memTouch _ _)

/-- A pop changes SP and reads the stack page, which is RAM and so no event, or raises (R62, R141). -/
theorem pop_readsOnly {s₀ : State} (h : ReadsOnly s₀ s) (opc : Word) (n : Nat) :
    Ends (ReadsOnly s₀) (fun p => ReadsOnly s₀ p.2) (pop opc n s) := by
  rcases pop_cases opc n s with ⟨_, e⟩ | ⟨_, e⟩ <;> rw [e] <;> exact h

theorem pullA_readsOnly (s : State) : Ends (ReadsOnly s) (ReadsOnly s) (pullA s) :=
  (pop_readsOnly (.refl s) _ _).bind fun _ hp => hp

theorem pullStatus_readsOnly (s : State) : Ends (ReadsOnly s) (ReadsOnly s) (pullStatus s) :=
  (pop_readsOnly (.refl s) _ _).bind fun _ hp => hp

theorem returnSub_readsOnly (s : State) : Ends (ReadsOnly s) (ReadsOnly s) (returnSub s) :=
  (pop_readsOnly (.refl s) _ _).bind fun _ hlo => (pop_readsOnly hlo _ _).bind fun _ hhi => hhi

theorem interruptReturn_readsOnly (s : State) : Ends (ReadsOnly s) (ReadsOnly s) (interruptReturn s) :=
  (pop_readsOnly (.refl s) _ _).bind fun p hst =>
    (pop_readsOnly (s := writeReg .st p.1 p.2) hst _ _).bind fun _ hlo =>
      (pop_readsOnly hlo _ _).bind fun _ hhi => hhi

theorem transfer_readsOnly (des src : Reg) (s : State) : ReadsOnly s (transfer des src s) := by
  unfold transfer
  split <;> simp

theorem brcSet_readsOnly (mask off : Byte) (s : State) : ReadsOnly s (brcSet mask off s) := by
  unfold brcSet
  split <;> exact .refl s

theorem brcRst_readsOnly (mask off : Byte) (s : State) : ReadsOnly s (brcRst mask off s) := by
  unfold brcRst
  split <;> exact .refl s

/-- The mnemonics that write memory or the peripheral in every form: stores, INC and DEC, pushes, JSR, BRK (R44). -/
def memoryWritingOps : List Mnemonic := [.sta, .stx, .sty, .inc, .dec, .pha, .php, .jsr, .brk]

/-- Every other instruction only reads, but for the memory forms of the shifts (R44, R71). -/
theorem Runs.readsOnly {m : Mnemonic} {o : Operand} {f : State → Result} (h : Runs m o f) (ht : f s = .next t)
    (hm : m ∉ memoryWritingOps) (ho : m ∈ [.asl, .lsr, .rol, .ror] → o = .acc) : ReadsOnly s t := by
  cases h with
  | sta | stx | sty | inc | dec | pha | php | jsr | brk => exact absurd (by decide) hm
  | asl | lsr | rol | ror => exact absurd (ho (by decide)) (by simp)
  | pla => exact (pullA_readsOnly s).settle_self ht
  | plp => exact (pullStatus_readsOnly s).settle_self ht
  | rts => exact (returnSub_readsOnly s).settle_self ht
  | rti => exact (interruptReturn_readsOnly s).settle_self ht
  | lda | ldx | ldy => cases ht; simp [load]
  | tax | tay | txa | tya | tsx | txs => cases ht; exact transfer_readsOnly _ _ s
  | adc | sbc => cases ht; simp [addToA]
  | and | eor | ora => cases ht; simp [logic]
  | cmp | cpx | cpy => cases ht; simp [compareReg]
  | bit => cases ht; simp [bitTest]
  | aslA | lsrA | rolA | rorA => cases ht; simp [shiftA]
  | inx | iny | dex | dey => cases ht; simp [stepReg]
  | sec | sei | sed | clc | cli | cld | clv => cases ht; simp
  | nop => cases ht; exact .refl s
  | bcs | beq | bmi | bvs => cases ht; exact brcSet_readsOnly _ _ s
  | bcc | bne | bpl | bvc => cases ht; exact brcRst_readsOnly _ _ s
  | jmp => cases ht; simp [jump]

end ReadsOnly

/-- Settles O55: an instruction outside the list only reads the bus. -/
theorem memoryWriters : Obligations.MemoryWriters := by
  unfold Obligations.MemoryWriters
  intro i s t h hop hshift
  obtain ⟨hram, hrom, hev⟩ := (exec_runs i).readsOnly h hop hshift
  exact ⟨sameMemory_of hram hrom, hev⟩

end Sys2Proof.Machine

/-! ### The cartridge -/

namespace Sys2Proof.Machine

section Cartridge

variable {s t : State} {rom : Memory}

theorem Kept.rom_eq {rs : List Reg} {fs : List Flag} (h : Kept rs fs s t) : t.rom = s.rom := by
  obtain ⟨-, -, -, -, -, hrom, -⟩ := h
  exact hrom

/-! #### Instructions -/

/-- A push writes RAM or raises, and keeps the cartridge either way (R140). -/
theorem push_rom (h : s.rom = rom) (opc : Word) (n : Nat) (v : Byte) :
    Ends (·.rom = rom) (·.rom = rom) (push opc n v s) := by
  rcases push_cases opc n v s with ⟨_, e⟩ | ⟨_, e⟩ <;> rw [e] <;> exact h

theorem callSub_rom (b1 b2 : Byte) (s : State) : Ends (·.rom = s.rom) (·.rom = s.rom) (callSub b1 b2 s) :=
  (push_rom rfl _ _ _).bind fun _ h1 => (push_rom h1 _ _ _).bind fun _ h2 => h2

theorem intEntry_rom (h : s.rom = rom) (opc vector : Word) (brk : Bool) :
    Ends (·.rom = rom) (·.rom = rom) (intEntry opc vector brk s) :=
  (push_rom h _ _ _).bind fun _ h1 =>
    (push_rom h1 _ _ _).bind fun _ h2 =>
      (push_rom h2 _ _ _).bind fun s3 h3 =>
        ((memTouch_rom _ _).trans (memTouch_rom _ (s3.setFlag .i true))).trans h3

/-- The instructions that write memory leave the cartridge alone too: a bus write there is discarded (R52). -/
theorem Runs.rom_eq {m : Mnemonic} {o : Operand} {f : State → Result} (h : Runs m o f) (ht : f s = .next t) :
    t.rom = s.rom := by
  have hro := h.readsOnly ht
  cases h with
  | pha | php => exact (push_rom rfl _ _ _).settle_self ht
  | jsr b1 b2 => exact (callSub_rom b1 b2 s).settle_self ht
  | brk => exact (intEntry_rom (s := s.setPc (s.pc + 1)) rfl _ _ _).settle_self ht
  | sta m | stx m | sty m => cases ht; exact (store_kept _ m s).rom_eq
  | asl m | lsr m | rol m | ror m => cases ht; exact (shiftMem_kept _ m s).rom_eq
  | inc m | dec m => cases ht; exact (stepMem_kept _ m s).rom_eq
  | _ => exact (hro (by decide) (by simp)).rom_eq

/-! #### The step -/

theorem runInstr_rom {i : Instr} (ht : runInstr i s = .next t) : t.rom = s.rom := by
  unfold runInstr at ht
  split at ht <;> cases ht
  next u hu => exact (retire_rom i u).trans ((exec_runs i).rom_eq hu)

@[simp] theorem fetch8_rom (s : State) : (fetch8 s).2.rom = s.rom := memTouch_rom s.pc s

theorem fetchInstr_rom (s : State) : Ends (·.rom = s.rom) (·.2.rom = s.rom) (fetchInstr s) := by
  unfold fetchInstr
  dsimp only
  split
  · simp [Ends]
  · split <;> simp [Ends]

theorem stepInstr_rom (ht : stepInstr s = .next t) : t.rom = s.rom := by
  unfold stepInstr at ht
  split at ht
  · have hf := fetchInstr_rom s
    split at ht
    · next e => rw [e] at hf; cases ht; exact hf
    · next e => rw [e] at hf; exact (runInstr_rom ht).trans hf
  · cases ht

theorem clock_rom (ht : clock s = .next t) : t.rom = s.rom := by
  unfold clock at ht
  split at ht
  · split at ht <;> cases ht
    next u hu => exact (tick_rom u).trans (stepInstr_rom hu)
  · cases ht; rfl

theorem nmi_rom (ht : nmi s = .next t) : t.rom = s.rom := (intEntry_rom rfl _ _ _).settle_self ht

theorem irq_rom (ht : irq s = .next t) : t.rom = s.rom := by
  unfold irq at ht
  split at ht
  · cases ht; rfl
  · exact (intEntry_rom rfl _ _ _).settle_self ht

theorem transition_rom {e : Entry} (ht : transition e s = .next t) : t.rom = s.rom := by
  cases e with
  | step => exact stepInstr_rom ht
  | clock => exact clock_rom ht
  | rst => cases ht; rw [rst_eq]
  | nmi =>
    unfold transition at ht
    dsimp only at ht
    split at ht
    · exact nmi_rom ht
    · cases ht
  | irq =>
    unfold transition at ht
    dsimp only at ht
    split at ht
    · exact irq_rom ht
    · cases ht

end Cartridge

/-- Settles O9: every transition keeps the cartridge, and a read from 0x8000 on is a read of it. -/
theorem cartridgeIsNeverWritten : Obligations.CartridgeIsNeverWritten := by
  unfold Obligations.CartridgeIsNeverWritten
  intro s t ht
  have hrom : t.rom = s.rom := transition_rom (s := beginTransition s) ht
  refine ⟨hrom, fun a ha => ?_⟩
  simp only [memPeek, route_of_ge_0x8000 ha, hrom]

end Sys2Proof.Machine

/-! ### Encoding and decoding -/

namespace Sys2Proof

/-! #### The bytes of an instruction -/

/-- Every instruction is one of the table by mnemonic, in its form's length (R81, R85). -/
theorem instr_shape (i : Instr) : Laws.Shape.Statement i := by cases i <;> exact ⟨rfl, rfl⟩

theorem Instr.wellFormed_eq_true (i : Instr) : i.wellFormed = true := (instr_shape i).1

theorem Instr.operand_bytes_length (i : Instr) : i.operand.bytes.length + 1 = i.form.length := (instr_shape i).2

/-! #### The rows of the table by byte value -/

/-- The instruction a row makes of its operand bytes; one its form does not have is passed on as 0x00, as `decode`
does. -/
def Row.instr (r : Row) (operands : List Byte) : Instr := r.build (operands.getD 0 0x00) (operands.getD 1 0x00)

/-- What a row builds encodes as its opcode byte and as many operand bytes as its form has (R80, R81). -/
def Row.Encodes (r : Row) : Prop :=
  ∀ b1 b2 : Byte, encode (r.build b1 b2) = r.opcode :: [b1, b2].take (r.form.length - 1)

/-- The table by byte value agrees with the opcode bytes of the instruction rules, row by row (R85). -/
theorem rowsOf_encodes (n : Nat) : ∀ r ∈ rowsOf n, r.Encodes := by
  rw [← List.forall_iff_forall_mem]
  match n with
  | 0 | 1 | 2 | 3 | 4 | 5 | 6 | 7 | 8 | 9 | 10 | 11 | 12 | 13 | 14 | 15 => and_intros <;> exact fun _ _ => rfl
  | _ + 16 => trivial

/-- The lists of operand bytes that a form can have (R80). -/
theorem operands_cases {f : Form} {operands : List Byte} (h : operands.length + 1 = f.length) :
    operands = [] ∨ (∃ b1, operands = [b1]) ∨ ∃ b1 b2, operands = [b1, b2] := by
  have hmax : f.length ≤ maxLength := by cases f <;> decide
  match operands with
  | [] => exact .inl rfl
  | [b1] => exact .inr (.inl ⟨b1, rfl⟩)
  | [b1, b2] => exact .inr (.inr ⟨b1, b2, rfl⟩)
  | _ :: _ :: _ :: tail =>
    simp only [← h, maxLength, List.length_cons] at hmax
    omega

theorem Row.Encodes.encode_instr {r : Row} {operands : List Byte} (h : r.Encodes)
    (hlen : operands.length + 1 = r.form.length) : encode (r.instr operands) = r.opcode :: operands := by
  rw [Row.instr, h, ← hlen]
  obtain rfl | ⟨_, rfl⟩ | ⟨_, _, rfl⟩ := operands_cases hlen <;> rfl

/-- The row found for an opcode byte is one of the table's, and that byte's. -/
theorem lookup_eq_some {opcode : Byte} {r : Row} (h : lookup opcode = some r) : r.opcode = opcode ∧ r.Encodes :=
  ⟨by simpa using List.find?_some h, rowsOf_encodes _ r (List.mem_of_find?_eq_some h)⟩

/-- The instruction rules agree with the table by byte value: the row of an instruction's opcode byte has the
instruction's form and makes the instruction of its operand bytes (R85). -/
theorem lookup_opcode (i : Instr) :
    ∃ r, lookup i.opcode = some r ∧ r.form = i.form ∧ r.instr i.operand.bytes = i := by
  -- The opcode byte as a literal lets the lookup evaluate under the operand variables.
  cases i <;> dsimp only [Instr.opcode] <;> exact ⟨_, rfl, rfl, rfl⟩

/-! #### The decoder -/

/-- `decode` takes the operand bytes that the form of the opcode byte's row has, and leaves the rest (R80 to R83). -/
theorem decode_append {opcode : Byte} {r : Row} {operands : List Byte} (h : lookup opcode = some r)
    (hlen : operands.length + 1 = r.form.length) (rest : List Byte) :
    decode (opcode :: operands ++ rest) = .ok (r.instr operands, rest) := by
  obtain rfl | ⟨_, rfl⟩ | ⟨_, _, rfl⟩ := operands_cases hlen <;> simp [decode, h, ← hlen, Row.instr]

/-- Bytes that decode are an opcode byte with a row, the operand bytes its form has, and the rest; the converse of
`decode_append`. -/
theorem decode_eq_ok {bs rest : List Byte} {i : Instr} (h : decode bs = .ok (i, rest)) :
    ∃ opcode r operands, lookup opcode = some r ∧ operands.length + 1 = r.form.length ∧
      bs = opcode :: operands ++ rest ∧ i = r.instr operands := by
  unfold decode at h
  split at h
  · cases h
  · next opcode tail =>
    split at h
    · cases h
    · next r hr =>
      split at h
      · next hlen => cases h; exact ⟨opcode, r, [], hr, hlen.symm, rfl, rfl⟩
      · next b1 _ hlen => cases h; exact ⟨opcode, r, [b1], hr, hlen.symm, rfl, rfl⟩
      · next b1 b2 _ hlen => cases h; exact ⟨opcode, r, [b1, b2], hr, hlen.symm, rfl, rfl⟩
      · cases h

/-- Settles O2: the row of the instruction's opcode byte makes it of its operand bytes. -/
theorem decodeInvertsEncode : Obligations.DecodeInvertsEncode := by
  unfold Obligations.DecodeInvertsEncode
  intro i rest _
  obtain ⟨r, hr, hform, hi⟩ := lookup_opcode i
  have hlen : i.operand.bytes.length + 1 = r.form.length := hform ▸ i.operand_bytes_length
  rw [encode, decode_append hr hlen, hi]

/-- Settles O3: the bytes `decode` read are the opcode byte of a row and operand bytes, to which the row's
instruction encodes. -/
theorem encodeInvertsDecode : Obligations.EncodeInvertsDecode := by
  unfold Obligations.EncodeInvertsDecode
  intro bs i rest h
  obtain ⟨opcode, r, operands, hr, hlen, hbs, hi⟩ := decode_eq_ok h
  obtain ⟨hop, henc⟩ := lookup_eq_some hr
  refine ⟨?_, i.wellFormed_eq_true⟩
  rw [hbs, hi, henc.encode_instr hlen, hop]

/-- Settles O1, by evaluating the decoder. -/
theorem sampleWordsDecode : Obligations.SampleWordsDecode := by
  unfold Obligations.SampleWordsDecode
  decide

/-- The bytes without a row, in the order of the bytes, are R86's list. -/
theorem filter_lookup_isNone :
    ((List.range 256).map (BitVec.ofNat 8)).filter (fun b => (lookup b).isNone) = Machine.undefinedBytes := by
  decide

/-- Settles O4: every byte is among the 256 that were looked up. -/
theorem undefinedBytesHaveNoInstruction : Obligations.UndefinedBytesHaveNoInstruction := by
  unfold Obligations.UndefinedBytesHaveNoInstruction
  refine ⟨rfl, fun b => ?_⟩
  have hb : b ∈ (List.range 256).map (BitVec.ofNat 8) :=
    List.mem_map.2 ⟨b.toNat, List.mem_range.2 b.isLt, by simp⟩
  rw [← filter_lookup_isNone, List.mem_filter, Option.isNone_iff_eq_none]
  exact ⟨fun h => ⟨hb, h⟩, And.right⟩

end Sys2Proof

/-! ### Addressing -/

namespace Sys2Proof.Machine

/-! #### Extension as arithmetic -/

theorem zext16_toNat (b : Byte) : (zext16 b).toNat = b.toNat := BitVec.toNat_setWidth_of_le (by decide)

theorem zext16_eq_ofNat (b : Byte) : zext16 b = BitVec.ofNat 16 b.toNat := (BitVec.ofNat_toNat 16 b).symm

theorem mkWord_zero (l : Byte) : mkWord 0x00 l = zext16 l := by
  apply BitVec.eq_of_toNat_eq
  rw [mkWord_toNat, zext16_toNat]
  simp

/-- A byte sum stays in the zero page (R106, R110, R111). -/
theorem zext16_add (b c : Byte) : zext16 (b + c) = BitVec.ofNat 16 ((b.toNat + c.toNat) % 256) := by
  rw [zext16_eq_ofNat, BitVec.toNat_add]

/-- An index addition wraps at 2^16 and so may leave the page (R102, R103, R107). -/
theorem add_zext16_toNat (w : Word) (b : Byte) : (w + zext16 b).toNat = (w.toNat + b.toNat) % 65536 := by
  rw [BitVec.toNat_add, zext16_toNat]

theorem getLsbD_seven (b : Byte) : b.getLsbD 7 = decide (128 ≤ b.toNat) := BitVec.getLsbD_last b

/-- Sign extension is the byte less 256, mod 2^16, exactly where bit 7 is set (R6). -/
theorem sext16_toNat (b : Byte) :
    (sext16 b).toNat = if 128 ≤ b.toNat then 65536 - (256 - b.toNat) else b.toNat := by
  have hb := b.isLt
  simp only [sext16, getLsbD_seven, decide_eq_true_eq]
  split
  · have hext : (0xFF00 : Word).toNat = 0xFF00 := rfl
    rw [BitVec.toNat_add, zext16_toNat, hext]
    omega
  · exact zext16_toNat b

/-- A negative displacement's magnitude is its two's complement, and subtracting it adds the displacement (R108). -/
theorem sub_zext16_not_add_one {off : Byte} (h : off.getLsbD 7 = true) (w : Word) :
    w - zext16 (~~~off + 1) = w + sext16 off := by
  have hneg : 128 ≤ off.toNat := of_decide_eq_true ((getLsbD_seven off).symm.trans h)
  have hmag : ~~~off + 1 = -off := (BitVec.neg_eq_not_add off).symm
  apply BitVec.eq_of_toNat_eq
  rw [hmag, BitVec.toNat_sub, BitVec.toNat_add, zext16_toNat, BitVec.toNat_neg, sext16_toNat,
    if_pos hneg]
  omega

/-- The relative target is one signed addition in both arms (R108). -/
theorem getAddr_rel (addr : Word) (off : Byte) (s : State) : getAddr .rel addr off s = (s.pc + sext16 off, s) := by
  unfold getAddr
  dsimp only
  split
  · next h => rw [sub_zext16_not_add_one h]
  · next h => rw [sext16, if_neg h]

/-- The pointer's location in IXI is a zero-page address (R106). -/
theorem getAddr_ixi (addr : Word) (off : Byte) (s : State) :
    getAddr .ixi addr off s = readPtr (BitVec.ofNat 16 ((addr.toNat % 256 + off.toNat) % 256)) s := by
  rw [← loByte_toNat, ← zext16_add, ← mkWord_zero]
  rfl

/-- Settles O27: each mode is one read, one addition to an address or one byte sum. -/
theorem resolverFormulas : Obligations.ResolverFormulas := by
  unfold Obligations.ResolverFormulas
  intro addr off s
  exact ⟨rfl, ⟨add_zext16_toNat addr s.x, rfl⟩, ⟨add_zext16_toNat addr s.y, rfl⟩, rfl,
    ⟨add_zext16_toNat (readPtr addr s).1 off, rfl⟩, getAddr_ixi addr off s,
    congrArg (·, s) (zext16_eq_ofNat off), congrArg (·, s) (zext16_add s.x off), congrArg (·, s) (zext16_add s.y off)⟩

/-- Settles O28: the sign-extended displacement as arithmetic is the displacement less 256 where bit 7 is set. -/
theorem relativeTarget : Obligations.RelativeTarget := by
  unfold Obligations.RelativeTarget
  intro addr off s
  have htarget := getAddr_rel addr off s
  refine ⟨htarget, ?_⟩
  have hoff := off.isLt
  rw [htarget, BitVec.toNat_add, sext16_toNat]
  split
  · congr 1; omega
  · rfl

/-- Settles O30: `ea` is the table itself; a fetch from memory is one bus read at `ea`, and a bus read changes no
register, flag or storage. -/
theorem operandFetch : Obligations.OperandFetch := by
  unfold Obligations.OperandFetch
  refine ⟨fun b1 b2 s => ⟨rfl, rfl, rfl, rfl, rfl, rfl, rfl, rfl, rfl, rfl⟩, fun m s => ⟨rfl, rfl, ?frame, ?memory⟩⟩
  case frame => exact loadOperand_kept (.mem m) s
  case memory => exact sameMemory_of (loadOperand_ram (.mem m) s) (loadOperand_rom (.mem m) s)

end Sys2Proof.Machine

/-! ### Loads, stores and transfers -/

namespace Sys2Proof.Machine

/-! #### A register result with its N and Z -/

theorem nzof_setNZ (v : Byte) (s : State) : NZof v (setNZ v s) := by simp [NZof]

/-- A byte written to a register stands there also after `SetNZ` of it (R25). -/
theorem readReg_setNZ_writeReg {r : Reg} (hr : r ≠ .st) (v : Byte) (s : State) :
    readReg r (setNZ v (writeReg r v s)) = v :=
  (readReg_setNZ hr v _).trans (readReg_writeReg_same r v s)

/-! #### Loads -/

theorem ne_st_of_load {m : Mnemonic} {r : Reg} (h : (m, r) ∈ [(Mnemonic.lda, Reg.a), (.ldx, .x), (.ldy, .y)]) :
    r ≠ .st := by
  rintro rfl
  simp at h

theorem load_sameMemory (r : Reg) (src : Src) (s : State) : SameMemory s (load r src s) :=
  sameMemory_of (by simp [load]) (by simp [load])

theorem load_events (r : Reg) (src : Src) (s : State) : (load r src s).events = (loadOperand src s).2.events :=
  writeReg_events r _ _

theorem load_penalty (r : Reg) (src : Src) (s : State) : (load r src s).penalty = (loadOperand src s).2.penalty :=
  writeReg_penalty r _ _

/-- Settles O31: a load is the operand fetch, one register write and `SetNZ`; only the fetch touches the bus. -/
theorem loadResult : Obligations.LoadResult := by
  unfold Obligations.LoadResult
  refine ⟨rfl, rfl, rfl, fun i r src s hi hsrc => ?_⟩
  have hr := ne_st_of_load hi
  exact ⟨load r src s, exec_load hi hsrc s, readReg_setNZ_writeReg hr _ _, nzof_setNZ _ _, load_kept hr src s,
    load_sameMemory r src s, load_events r src s, load_penalty r src s⟩

/-! #### Stores -/

/-- The register is read after the address is resolved, which leaves it and RAM alone (R120). -/
theorem store_wrote {s : State} (hram : s.ramWf = true) (r : Reg) (m : Mem) :
    Wrote (ea m s).1 (readReg r s) (ea m s).2 (store r m s) := by
  have hwf : (ea m s).2.ramWf = true := by rw [State.ramWf, ea_ram]; exact hram
  rw [← readReg_ea r m s]
  exact memWrite_wrote hwf _ _

theorem store_penalty (r : Reg) (m : Mem) (s : State) : (store r m s).penalty = s.penalty :=
  (memWrite_penalty _ _ _).trans (ea_penalty m s)

/-- Settles O32: a store is one bus write at the resolved address. -/
theorem storeResult : Obligations.StoreResult := by
  unfold Obligations.StoreResult
  refine ⟨rfl, rfl, rfl, fun i r m s hi hm hram => ?_⟩
  exact ⟨store r m s, exec_store hi hm s, store_wrote hram r m, store_kept r m s, store_penalty r m s⟩

/-! #### Transfers -/

/-- TAX, TAY, TXA, TYA, TSX, each with its destination and its source (R128 to R132). -/
theorem exec_transfer {i : Instr} {des src : Reg}
    (h : (i, des, src) ∈ [(Instr.tax, Reg.x, Reg.a), (.tay, .y, .a), (.txa, .a, .x), (.tya, .a, .y), (.tsx, .x, .sp)])
    (s : State) : exec i s = .next (transfer des src s) := by
  simp only [List.mem_cons, List.not_mem_nil, or_false, Prod.mk.injEq] at h
  obtain ⟨rfl, rfl, rfl⟩ | ⟨rfl, rfl, rfl⟩ | ⟨rfl, rfl, rfl⟩ | ⟨rfl, rfl, rfl⟩ | ⟨rfl, rfl, rfl⟩ := h <;> rfl

theorem ne_st_sp_of_transfer {i : Instr} {des src : Reg}
    (h : (i, des, src) ∈ [(Instr.tax, Reg.x, Reg.a), (.tay, .y, .a), (.txa, .a, .x), (.tya, .a, .y), (.tsx, .x, .sp)]) :
    des ≠ .st ∧ des ≠ .sp := by
  constructor <;> rintro rfl <;> simp at h

/-- A transfer to any register but SP is a register write and `SetNZ` of it (R127). -/
theorem transfer_eq {des : Reg} (hsp : des ≠ .sp) (src : Reg) (s : State) :
    transfer des src s = setNZ (readReg src s) (writeReg des (readReg src s) s) := if_neg hsp

theorem transfer_sameMemory (des src : Reg) (s : State) : SameMemory s (transfer des src s) := by
  obtain ⟨hram, hrom, -⟩ := transfer_readsOnly des src s
  exact sameMemory_of hram hrom

/-- Settles O33: a transfer is a register write and, but to SP, `SetNZ`; neither touches the bus. -/
theorem transferResult : Obligations.TransferResult := by
  unfold Obligations.TransferResult
  refine ⟨rfl, rfl, rfl, rfl, rfl, rfl, fun i des src s hi => ?_, fun s => rfl⟩
  obtain ⟨hst, hsp⟩ := ne_st_sp_of_transfer hi
  refine ⟨transfer des src s, exec_transfer hi s, ?value, ?nz, transfer_kept hst hsp src s,
    transfer_sameMemory des src s, ?events, ?penalty⟩ <;> rw [transfer_eq hsp]
  case value => exact readReg_setNZ_writeReg hst _ s
  case nz => exact nzof_setNZ _ _
  case events => exact writeReg_events des _ s
  case penalty => exact writeReg_penalty des _ s

end Sys2Proof.Machine

/-! ### The stack -/

namespace Sys2Proof.Machine

section Stack

variable {s t : State}

/-! #### Frames -/

theorem Kept.mono {rs rs' : List Reg} {fs fs' : List Flag} (h : Kept rs fs s t) (hrs : rs ⊆ rs') (hfs : fs ⊆ fs') :
    Kept rs' fs' s t := by
  obtain ⟨hr, hf⟩ := h.frame.mono hrs hfs
  exact ⟨hr, hf, h.2.2⟩

/-- A register that ends as it was may be struck off the list of those written. -/
theorem Kept.of_cons {r : Reg} {rs : List Reg} {fs : List Flag} (h : Kept (r :: rs) fs s t)
    (hr : readReg r t = readReg r s) : Kept rs fs s t := by
  obtain ⟨hregs, hrest⟩ := h
  refine ⟨fun q hst hq => ?_, hrest⟩
  by_cases hqr : q = r
  · rw [hqr, hr]
  · exact hregs q hst (by simp [hqr, hq])

/-! #### One push and one pop -/

/-- The state after a push of `v` onto a stack with room for it (R140). -/
def State.pushed (v : Byte) (s : State) : State :=
  { s with sp := s.sp - 1, ram := s.ram.write (256 + s.sp.toNat) v }

theorem push_eq_ok (h : 0 < s.sp.toNat) (opc : Word) (n : Nat) (v : Byte) : push opc n v s = .ok (s.pushed v) :=
  push_ok (fun h0 => by simp [h0] at h) opc n v

theorem push_eq_error (h : s.sp = 0x00) (opc : Word) (n : Nat) (v : Byte) :
    push opc n v s = .error (raise (.stackOverflow 0x00 opc n) s) := by
  rcases push_cases opc n v s with ⟨_, e⟩ | ⟨hne, _⟩
  · exact e
  · exact absurd h hne

theorem pop_eq_error (h : s.sp = 0xFF) (opc : Word) (n : Nat) :
    pop opc n s = .error (raise (.stackUnderflow 0xFF opc n) s) := by
  rcases pop_cases opc n s with ⟨_, e⟩ | ⟨hne, _⟩
  · exact e
  · exact absurd h hne

theorem sp_succ_toNat (h : s.sp.toNat < 255) : (s.sp + 1).toNat = s.sp.toNat + 1 := by
  rw [BitVec.toNat_add]
  exact Nat.mod_eq_of_lt (by simp; omega)

theorem pop_eq_ok (h : s.sp.toNat < 255) (opc : Word) (n : Nat) :
    pop opc n s = .ok (s.ram.read (256 + s.sp.toNat + 1), writeReg .sp (s.sp + 1) s) := by
  rw [pop_ok (fun hff => by simp [hff] at h), sp_succ_toNat h, Nat.add_assoc]
  rfl

theorem sp_pos_of_ne_zero (h : s.sp ≠ 0x00) : 0 < s.sp.toNat :=
  Nat.pos_of_ne_zero fun h0 => h (BitVec.eq_of_toNat_eq h0)

theorem sp_lt_of_ne_empty (h : s.sp ≠ 0xFF) : s.sp.toNat < 255 := by
  have hlt := s.sp.isLt
  have hne : s.sp.toNat ≠ 255 := fun e => h (BitVec.eq_of_toNat_eq e)
  omega

theorem pushed_sp_toNat (h : 0 < s.sp.toNat) (v : Byte) : (s.pushed v).sp.toNat = s.sp.toNat - 1 :=
  BitVec.toNat_sub_of_le (show (1 : Byte).toNat ≤ s.sp.toNat from h)

theorem pushed_ramWf (h : s.ramWf = true) (v : Byte) : (s.pushed v).ramWf = true := by
  have hsp := s.sp.isLt
  exact Memory.wf_write h v (Nat.zero_le _) (by rw [Config.ramSize]; omega)

theorem pushed_kept (v : Byte) (s : State) : Kept [.sp] [] s (s.pushed v) :=
  writeReg_kept (r := .sp) (by decide) (s.sp - 1) s

/-! #### Several pushes -/

/-- The state after pushes of `vs`, the first byte first, onto a stack with room for them. -/
def State.pushedAll : List Byte → State → State
  | [], s => s
  | v :: vs, s => State.pushedAll vs (s.pushed v)

theorem pushedAll_sp (vs : List Byte) (s : State) : (s.pushedAll vs).sp = s.sp - BitVec.ofNat 8 vs.length := by
  induction vs generalizing s with
  | nil => exact (BitVec.sub_zero s.sp).symm
  | cons v vs ih =>
    calc ((s.pushed v).pushedAll vs).sp = s.sp - 1 - BitVec.ofNat 8 vs.length := ih _
      _ = s.sp - BitVec.ofNat 8 (vs.length + 1) := by
        rw [BitVec.ofNat_add, BitVec.sub_sub, BitVec.add_comm]; rfl

theorem pushedAll_sp_toNat {vs : List Byte} (h : vs.length ≤ s.sp.toNat) :
    (s.pushedAll vs).sp.toNat = s.sp.toNat - vs.length := by
  have hlen : (BitVec.ofNat 8 vs.length).toNat = vs.length := Nat.mod_eq_of_lt (h.trans_lt s.sp.isLt)
  rw [pushedAll_sp, BitVec.toNat_sub_of_le (hlen.trans_le h), hlen]

theorem pushedAll_kept (vs : List Byte) (s : State) : Kept [.sp] [] s (s.pushedAll vs) := by
  induction vs generalizing s with
  | nil => exact .refl _ _ s
  | cons v vs ih => exact ((pushed_kept v s).trans (ih _)).mono (by simp) (by simp)

theorem pushedAll_events (vs : List Byte) (s : State) : (s.pushedAll vs).events = s.events := by
  induction vs generalizing s with
  | nil => rfl
  | cons v vs ih => exact ih (s.pushed v)

theorem pushedAll_penalty (vs : List Byte) (s : State) : (s.pushedAll vs).penalty = s.penalty := by
  induction vs generalizing s with
  | nil => rfl
  | cons v vs ih => exact ih (s.pushed v)

/-- Only the slots from SP downwards, one for each byte, are written (R62, R140). -/
theorem pushedAll_read_other {vs : List Byte} (h : vs.length ≤ s.sp.toNat) {k : Nat}
    (hk : k ≤ 256 + s.sp.toNat - vs.length ∨ 256 + s.sp.toNat < k) : (s.pushedAll vs).ram.read k = s.ram.read k := by
  induction vs generalizing s with
  | nil => rfl
  | cons v vs ih =>
    rw [List.length_cons] at h hk
    have hsp := pushed_sp_toNat (s := s) (by omega) v
    calc ((s.pushed v).pushedAll vs).ram.read k = (s.pushed v).ram.read k := ih (by omega) (by omega)
      _ = s.ram.read k := Memory.read_write_other s.ram v (by omega)

/-- The first byte lies in the slot that SP named, each further byte one below. -/
theorem pushedAll_read_slot (hram : s.ramWf = true) {vs : List Byte} (h : vs.length ≤ s.sp.toNat) {k : Nat}
    (hk : k < vs.length) : (s.pushedAll vs).ram.read (256 + s.sp.toNat - k) = vs[k] := by
  induction vs generalizing s k with
  | nil => exact absurd hk (Nat.not_lt_zero k)
  | cons v vs ih =>
    rw [List.length_cons] at h hk
    have hsp := pushed_sp_toNat (s := s) (by omega) v
    cases k with
    | zero =>
      calc ((s.pushed v).pushedAll vs).ram.read (256 + s.sp.toNat)
          = (s.pushed v).ram.read (256 + s.sp.toNat) := pushedAll_read_other (by omega) (by omega)
        _ = v := Memory.read_write_same hram _ v
    | succ k =>
      have hslot : 256 + s.sp.toNat - (k + 1) = 256 + (s.pushed v).sp.toNat - k := by omega
      rw [hslot]
      exact ih (pushed_ramWf hram v) (by omega) (by omega)

/-- Whatever the target, the stored byte is the same where the RAM byte behind the address is. -/
theorem storedByte_eq_of_ram (hrom : t.rom = s.rom) {a : Word}
    (h : ∀ i, route a = .ram i → t.ram.read i = s.ram.read i) : storedByte a t = storedByte a s := by
  unfold storedByte memPeek
  cases hr : route a with
  | ram i => simp only [h i hr]
  | _ => simp only [hrom]

theorem pushedAll_stackHolds (hram : s.ramWf = true) {vs : List Byte} (h : vs.length ≤ s.sp.toNat) :
    StackHolds vs s (s.pushedAll vs) := by
  refine ⟨fun k hk => pushedAll_read_slot hram h hk, fun a ha => ?_⟩
  refine storedByte_eq_of_ram (pushedAll_kept vs s).rom_eq fun i hi => pushedAll_read_other h ?_
  by_contra hin
  exact ha (256 + s.sp.toNat - i) (by omega) (hi.trans (congrArg Target.ram (by omega)))

theorem pushAll_eq_ok {vs : List Byte} (h : vs.length ≤ s.sp.toNat) (opc : Word) (n : Nat) :
    pushAll opc n vs s = .ok (s.pushedAll vs) := by
  induction vs generalizing s with
  | nil => rfl
  | cons v vs ih =>
    rw [List.length_cons] at h
    rw [pushAll, push_eq_ok (by omega)]
    exact ih (by rw [pushed_sp_toNat (by omega)]; omega)

/-- Where the stack has no room for all the bytes, those that fit are pushed and the next one faults (R140, R254). -/
theorem pushAll_eq_error {vs : List Byte} (h : s.sp.toNat < vs.length) (opc : Word) (n : Nat) :
    pushAll opc n vs s = .error (raise (.stackOverflow 0x00 opc n) (s.pushedAll (vs.take s.sp.toNat))) := by
  induction vs generalizing s with
  | nil => exact absurd h (Nat.not_lt_zero _)
  | cons v vs ih =>
    rw [List.length_cons] at h
    by_cases hsp : s.sp = 0x00
    · rw [pushAll, push_eq_error hsp, hsp]
      rfl
    · have hpos := sp_pos_of_ne_zero hsp
      have hpred := pushed_sp_toNat hpos v
      rw [pushAll, push_eq_ok hpos, List.take_cons hpos, ← hpred]
      exact ih (by omega)

/-! #### Several pops -/

/-- The `n` bytes above SP, the nearest first. -/
def State.bytesAbove (n : Nat) (s : State) : List Byte :=
  (List.range n).map fun k => s.ram.read (256 + s.sp.toNat + 1 + k)

theorem bytesAbove_succ (h : s.sp.toNat < 255) (n : Nat) :
    s.bytesAbove (n + 1) =
      s.ram.read (256 + s.sp.toNat + 1) :: (writeReg .sp (s.sp + 1) s).bytesAbove n := by
  simp only [State.bytesAbove, List.range_succ_eq_map, List.map_cons, List.map_map, writeReg_ram, writeReg_sp_sp,
    sp_succ_toNat h, List.cons.injEq, Nat.add_zero, true_and]
  exact List.map_congr_left fun k _ => congrArg s.ram.read (by simp only [Nat.succ_eq_add_one]; omega)

theorem popAll_eq_ok {n : Nat} (h : s.sp.toNat + n ≤ 255) (opc : Word) (m : Nat) :
    popAll opc m n s = .ok (s.bytesAbove n, writeReg .sp (s.sp + BitVec.ofNat 8 n) s) := by
  induction n generalizing s with
  | zero => simp [popAll, State.bytesAbove, writeReg]
  | succ n ih =>
    have hlt : s.sp.toNat < 255 := by omega
    have hadd : s.sp + BitVec.ofNat 8 (n + 1) = s.sp + 1 + BitVec.ofNat 8 n := by
      rw [BitVec.ofNat_add, BitVec.add_assoc, BitVec.add_comm (BitVec.ofNat 8 n)]; rfl
    have hrest := ih (s := writeReg .sp (s.sp + 1) s) (by rw [writeReg_sp_sp, sp_succ_toNat hlt]; omega)
    rw [popAll, pop_eq_ok hlt, bytesAbove_succ hlt, hadd]
    simp only [Except.bind, hrest]
    rfl

/-- Above SP after pushes lie the bytes pushed, the last one nearest. -/
theorem bytesAbove_pushedAll (hram : s.ramWf = true) {vs : List Byte} (h : vs.length ≤ s.sp.toNat) :
    (s.pushedAll vs).bytesAbove vs.length = vs.reverse := by
  have hsp := pushedAll_sp_toNat h
  refine List.ext_getElem (by simp [State.bytesAbove]) fun k hk _ => ?_
  simp only [State.bytesAbove, List.length_map, List.length_range] at hk
  have hslot : 256 + (s.pushedAll vs).sp.toNat + 1 + k = 256 + s.sp.toNat - (vs.length - 1 - k) := by omega
  simp only [State.bytesAbove, List.getElem_reverse, List.getElem_map, List.getElem_range, hslot]
  exact pushedAll_read_slot hram h (by omega)

/-! #### PHA, PHP, PLA and PLP -/

/-- PHA pushes A and PHP the status with B and U set; the opcode's address is `pc - 1` (R142, R143). -/
theorem exec_push {i : Instr} (h : i = .pha ∨ i = .php) (s : State) :
    exec i s = settle (push (s.pc - 1) 1 (if i = .pha then s.a else s.st ||| 0x30) s) := by
  rcases h with rfl | rfl <;> rfl

theorem exec_pla (s : State) :
    exec .pla s = settle ((pop (s.pc - 1) 1 s).bind fun p => .ok (setNZ p.1 (writeReg .a p.1 p.2))) := rfl

theorem exec_plp (s : State) :
    exec .plp s = settle ((pop (s.pc - 1) 1 s).bind fun p => .ok (writeReg .st p.1 p.2)) := rfl

end Stack

/-- Settles O21: the pushed bytes stand above SP in reverse order, and as many pops answer them. -/
theorem pushesThenPopsRestore : Obligations.PushesThenPopsRestore := by
  unfold Obligations.PushesThenPopsRestore
  intro opc opc' n n' vs s hram hlen
  have hroom : (s.pushedAll vs).sp.toNat + vs.length ≤ 255 := by
    have hsp := s.sp.isLt
    rw [pushedAll_sp_toNat hlen]
    omega
  have hback : (s.pushedAll vs).sp + BitVec.ofNat 8 vs.length = s.sp := by
    rw [pushedAll_sp, BitVec.sub_add_cancel]
  have hkept := pushedAll_kept vs s
  have hpops := popAll_eq_ok hroom opc' n'
  rw [bytesAbove_pushedAll hram hlen, hback] at hpops
  refine ⟨s.pushedAll vs, writeReg .sp s.sp (s.pushedAll vs), pushAll_eq_ok hlen opc n, pushedAll_sp vs s, hkept, hpops,
    rfl, ?_⟩
  exact ((hkept.trans (writeReg_kept (by decide) s.sp _)).of_cons rfl).of_cons rfl

/-- Settles O22: the pushes that succeed write the slots above 0x0100, and after 255 of them SP is 0x00. -/
theorem stackHolds255Bytes : Obligations.StackHolds255Bytes := by
  unfold Obligations.StackHolds255Bytes
  intro opc n vs s hff
  have hsp : s.sp.toNat = 255 := congrArg BitVec.toNat hff
  refine ⟨fun hlen => ?fits, fun hlen => ?overflows⟩
  case fits =>
    have hroom : vs.length ≤ s.sp.toNat := hlen.trans_eq hsp.symm
    exact ⟨s.pushedAll vs, pushAll_eq_ok hroom opc n, by rw [pushedAll_sp, hff],
      pushedAll_read_other hroom (by omega)⟩
  case overflows =>
    have htake : (vs.take s.sp.toNat).length = s.sp.toNat := List.length_take_of_le (by omega)
    refine ⟨_, pushAll_eq_error (by omega) opc n, ?_, rfl, rfl, pushedAll_read_other htake.le (by omega)⟩
    rw [raise_sp, pushedAll_sp, htake, hsp, hff]
    rfl

/-- Settles O19: a push is the one-byte case of several pushes. -/
theorem pushWritesThenDecrements : Obligations.PushWritesThenDecrements := by
  unfold Obligations.PushWritesThenDecrements
  intro opc n v s
  refine ⟨fun hram hne => ?_, fun hfull => push_eq_error hfull opc n v⟩
  have hpos := sp_pos_of_ne_zero hne
  exact ⟨s.pushed v, push_eq_ok hpos opc n v, pushedAll_stackHolds (vs := [v]) hram hpos, rfl, pushed_kept v s, rfl, rfl⟩

/-- Settles O20: the two outcomes of a pop. -/
theorem popIncrementsThenReads : Obligations.PopIncrementsThenReads := by
  unfold Obligations.PopIncrementsThenReads
  intro opc n s
  exact ⟨fun hne => pop_eq_ok (sp_lt_of_ne_empty hne) opc n, fun hempty => pop_eq_error hempty opc n⟩

/-- Settles O34: each instruction is one push, by O19. -/
theorem pushInstructionResult : Obligations.PushInstructionResult := by
  unfold Obligations.PushInstructionResult
  refine ⟨rfl, rfl, fun i s hi => ?_⟩
  rw [exec_push hi]
  obtain ⟨hroom, hfull⟩ := pushWritesThenDecrements (s.pc - 1) 1 (if i = .pha then s.a else s.st ||| 0x30) s
  refine ⟨fun hram hne => ?_, fun hz => by rw [hfull hz]; rfl⟩
  obtain ⟨t, hpush, ht⟩ := hroom hram hne
  exact ⟨t, by rw [hpush]; rfl, ht⟩

/-- Settles O35: each instruction is one pop, by O20, and one register write. -/
theorem pullInstructionResult : Obligations.PullInstructionResult := by
  unfold Obligations.PullInstructionResult
  refine ⟨rfl, rfl, fun s hne => ?room, fun i s hi hempty => ?underflow⟩
  case room =>
    have hpop := pop_eq_ok (sp_lt_of_ne_empty hne) (s.pc - 1) 1
    constructor
    · rw [exec_pla, hpop]
      refine ⟨_, rfl, rfl, nzof_setNZ _ _, rfl, ?_, sameMemory_of rfl rfl, rfl, rfl⟩
      exact (((writeReg_kept (r := .sp) (by decide) (s.sp + 1) s).trans
        (writeReg_kept (r := .a) (by decide) _ _)).trans (setNZ_kept _ _)).mono (by simp) (by simp)
    · rw [exec_plp, hpop]
      rfl
  case underflow =>
    have hpop := pop_eq_error hempty (s.pc - 1) 1
    rcases hi with rfl | rfl
    · rw [exec_pla, hpop]; rfl
    · rw [exec_plp, hpop]; rfl

end Sys2Proof.Machine

/-! ### Arithmetic and logic -/

namespace Sys2Proof.Machine

section Fetch

variable {src : Src} {s t : State}

/-! #### What only the operand fetch touches -/

/-- Memory, trace and penalty counter as the operand fetch alone leaves them: the part of the frame that the read
instructions of the ALU share (R113, R150). -/
def FetchesOnly (src : Src) (s t : State) : Prop :=
  SameMemory s t ∧ t.events = (loadOperand src s).2.events ∧ t.penalty = (loadOperand src s).2.penalty

@[simp] theorem fetchesOnly_loadOperand (src : Src) (s : State) : FetchesOnly src s (loadOperand src s).2 :=
  ⟨sameMemory_of (loadOperand_ram src s) (loadOperand_rom src s), rfl, rfl⟩

@[simp] theorem fetchesOnly_setFlag (f : Flag) (v : Bool) :
    FetchesOnly src s (t.setFlag f v) ↔ FetchesOnly src s t := Iff.rfl

@[simp] theorem fetchesOnly_setNZ (v : Byte) : FetchesOnly src s (setNZ v t) ↔ FetchesOnly src s t := Iff.rfl

@[simp] theorem fetchesOnly_writeReg (r : Reg) (v : Byte) :
    FetchesOnly src s (writeReg r v t) ↔ FetchesOnly src s t := by
  cases r <;> rfl

end Fetch

/-! #### The signed value of a complement -/

theorem not_toInt (b : Byte) : (~~~b).toInt = -b.toInt - 1 := by
  have hb := b.isLt
  rw [BitVec.toInt_eq_toNat_cond, BitVec.toInt_eq_toNat_cond, BitVec.toNat_not]
  split <;> split <;> omega

/-! #### The addition -/

section Add

variable (a m : Byte) (c : Bool)

theorem addWithCarry_r_toNat : (addWithCarry a m c).r.toNat = (a.toNat + m.toNat + c.toNat) % 256 :=
  BitVec.toNat_ofNat _ 8

/-- The overflow test says that the result's sign differs from that of both summands (R152). -/
theorem addWithCarry_overflow_eq_signs : (addWithCarry a m c).overflow =
    (((addWithCarry a m c).r.getLsbD 7 ^^ a.getLsbD 7) && ((addWithCarry a m c).r.getLsbD 7 ^^ m.getLsbD 7)) := by
  rw [← BitVec.getLsbD_xor, ← BitVec.getLsbD_xor, ← BitVec.getLsbD_and, Bool.eq_iff_iff]
  exact bne_iff_ne.trans (and_mask_ne_zero .n _)

/-- V is signed overflow (R162). -/
theorem addWithCarry_overflow_eq_signed : (addWithCarry a m c).overflow =
    decide (a.toInt + m.toInt + c.toNat < -128 ∨ 127 < a.toInt + m.toInt + c.toNat) := by
  have ha := a.isLt
  have hm := m.isLt
  have hc := c.toNat_le
  have hr := addWithCarry_r_toNat a m c
  rw [addWithCarry_overflow_eq_signs, BitVec.toInt_eq_toNat_cond, BitVec.toInt_eq_toNat_cond, Bool.eq_iff_iff]
  simp only [getLsbD_seven, Bool.and_eq_true, bne_iff_ne, ne_eq, decide_eq_decide, decide_eq_true_eq]
  split <;> split <;> omega

/-! #### The subtraction -/

/-- The borrow in is the complement of the carry in (R153). -/
theorem borrow_eq_one_sub_carry : (if c then 0 else 1 : Int) = 1 - c.toNat := by cases c <;> rfl

/-- Adding the one's complement and the carry is subtracting the operand and the borrow, 256 too high (R153). -/
theorem add_not_add_carry : ((a.toNat + (~~~m).toNat + c.toNat : Nat) : Int) =
    (a.toNat : Int) - m.toNat - (if c then 0 else 1) + 256 := by
  have hm := m.isLt
  rw [BitVec.toNat_not, borrow_eq_one_sub_carry]
  omega

theorem subWithBorrow_r_toNat_int : ((subWithBorrow a m c).r.toNat : Int) =
    ((a.toNat : Int) - m.toNat - (if c then 0 else 1)) % 256 := by
  rw [subWithBorrow, addWithCarry_r_toNat, Int.natCast_mod, add_not_add_carry]
  exact Int.add_emod_right _ _

/-- C is the complement of the borrow out (R153). -/
theorem subWithBorrow_carry : (subWithBorrow a m c).carry =
    decide (0 ≤ (a.toNat : Int) - m.toNat - (if c then 0 else 1)) := by
  have hsum := add_not_add_carry a m c
  exact decide_eq_decide.2 (by omega)

/-- V is signed overflow of the difference (R153). -/
theorem subWithBorrow_overflow_eq_signed : (subWithBorrow a m c).overflow =
    decide (a.toInt - m.toInt - (if c then 0 else 1) < -128 ∨ 127 < a.toInt - m.toInt - (if c then 0 else 1)) := by
  have hdiff : a.toInt + (~~~m).toInt + c.toNat = a.toInt - m.toInt - (if c then 0 else 1) := by
    rw [not_toInt, borrow_eq_one_sub_carry]
    omega
  rw [subWithBorrow, addWithCarry_overflow_eq_signed, hdiff]

end Add

/-! #### ADC and SBC -/

section AddToA

variable (f : Byte → Byte → Bool → AddResult) (src : Src) (s : State)

theorem addToA_a : (addToA f src s).a = (f s.a (loadOperand src s).1 (s.flag .c)).r := by simp [addToA]

theorem addToA_flag_c : (addToA f src s).flag .c = (f s.a (loadOperand src s).1 (s.flag .c)).carry := by simp [addToA]

theorem addToA_flag_v : (addToA f src s).flag .v = (f s.a (loadOperand src s).1 (s.flag .c)).overflow := by
  simp [addToA]

theorem addToA_nzof : NZof (addToA f src s).a (addToA f src s) := nzof_setNZ _ _

theorem addToA_fetchesOnly : FetchesOnly src s (addToA f src s) := by simp [addToA]

end AddToA

/-- Settles O36: ADC writes what the addition answers; its carry and overflow test are R152's own. -/
theorem adcResult : Obligations.AdcResult := by
  unfold Obligations.AdcResult
  refine ⟨rfl, fun i src s hop hsrc => ⟨addToA addWithCarry src s, exec_adc hop hsrc s, ?_⟩⟩
  refine ⟨?sum, addToA_flag_c _ src s, ?test, addToA_nzof _ src s, (addToA_kept _ src s).mono (by simp) (by simp),
    addToA_fetchesOnly _ src s⟩ <;> rw [addToA_a]
  case sum => exact addWithCarry_r_toNat _ _ _
  case test => exact addToA_flag_v _ src s

/-- Settles O37: SBC writes what the subtraction answers, and the subtraction is ADC's addition of the one's
complement. -/
theorem sbcResult : Obligations.SbcResult := by
  unfold Obligations.SbcResult
  refine ⟨rfl, fun i src s hop hsrc => ⟨addToA subWithBorrow src s, exec_sbc hop hsrc s, ?_⟩⟩
  refine ⟨?sum, ?diff, ?carry, ?test, ?signed, addToA_nzof _ src s, (addToA_kept _ src s).mono (by simp) (by simp),
    addToA_fetchesOnly _ src s⟩
  case sum => rw [addToA_a]; exact addWithCarry_r_toNat _ _ _
  case diff => rw [addToA_a]; exact subWithBorrow_r_toNat_int _ _ _
  case carry => rw [addToA_flag_c]; exact subWithBorrow_carry _ _ _
  case test => rw [addToA_a]; exact addToA_flag_v _ src s
  case signed => rw [addToA_flag_v]; exact subWithBorrow_overflow_eq_signed _ _ _

/-- Settles O38: the sign test of the addition is signed overflow. -/
theorem adcOverflowIsSigned : Obligations.AdcOverflowIsSigned := by
  unfold Obligations.AdcOverflowIsSigned
  intro i src s hop hsrc
  exact ⟨addToA addWithCarry src s, exec_adc hop hsrc s,
    (addToA_flag_v _ src s).trans (addWithCarry_overflow_eq_signed _ _ _)⟩

/-! #### AND, EOR and ORA -/

theorem logic_a (f : Byte → Byte → Byte) (src : Src) (s : State) :
    (logic f src s).a = f s.a (loadOperand src s).1 := by simp [logic]

theorem logic_nzof (f : Byte → Byte → Byte) (src : Src) (s : State) : NZof (logic f src s).a (logic f src s) :=
  nzof_setNZ _ _

theorem logic_fetchesOnly (f : Byte → Byte → Byte) (src : Src) (s : State) : FetchesOnly src s (logic f src s) := by
  simp [logic]

/-- An instruction that `logicRule` gives a result runs `logic` with the operation of that result (R154 to R156). -/
theorem exec_logic {i : Instr} {src : Src} {r : Byte} {s : State}
    (hrule : logicRule i.op s.a (loadOperand src s).1 = some r) (hsrc : i.operand = .src src) :
    ∃ f : Byte → Byte → Byte, exec i s = .next (logic f src s) ∧ f s.a (loadOperand src s).1 = r := by
  unfold logicRule at hrule
  split at hrule
  · next hop => exact ⟨_, exec_and hop hsrc s, Option.some.inj hrule⟩
  · next hop => exact ⟨_, exec_eor hop hsrc s, Option.some.inj hrule⟩
  · next hop => exact ⟨_, exec_ora hop hsrc s, Option.some.inj hrule⟩
  · cases hrule

/-- Settles O39: the three instructions are `logic` with the rule's operation. -/
theorem logicResult : Obligations.LogicResult := by
  unfold Obligations.LogicResult
  refine ⟨rfl, rfl, rfl, fun i src r s hrule hsrc => ?_⟩
  obtain ⟨f, hexec, hr⟩ := exec_logic hrule hsrc
  have ha : (logic f src s).a = r := (logic_a f src s).trans hr
  exact ⟨logic f src s, hexec, ha, ha ▸ logic_nzof f src s, logic_kept f src s, logic_fetchesOnly f src s⟩

/-! #### CMP, CPX and CPY -/

section Compare

variable (r : Reg) (src : Src) (s : State)

theorem compareReg_flag_c : (compareReg r src s).flag .c =
    decide ((loadOperand src s).1.toNat ≤ (readReg r s).toNat) := by
  simp [compareReg, BitVec.le_def]

theorem compareReg_nzof : NZof (readReg r s - (loadOperand src s).1) (compareReg r src s) := by
  rw [← readReg_loadOperand r src s]
  exact nzof_setNZ _ _

/-- The difference is zero exactly where register and operand are equal (R157). -/
theorem compareReg_flag_z : (compareReg r src s).flag .z = decide (readReg r s = (loadOperand src s).1) := by
  obtain ⟨-, hz⟩ := compareReg_nzof r src s
  rw [hz, beq_eq_decide]
  exact decide_eq_decide.2 sub_eq_zero

theorem compareReg_fetchesOnly : FetchesOnly src s (compareReg r src s) := by simp [compareReg]

end Compare

/-- Settles O40: a compare writes C and `SetNZ` of the difference after the operand fetch, and nothing else. -/
theorem compareResult : Obligations.CompareResult := by
  unfold Obligations.CompareResult
  refine ⟨rfl, rfl, rfl, fun i r src s hi hsrc => ?_⟩
  exact ⟨compareReg r src s, exec_compare hi hsrc s, compareReg_flag_c r src s, compareReg_nzof r src s,
    compareReg_flag_z r src s, (compareReg_kept r src s).mono (by simp) (by simp), compareReg_fetchesOnly r src s⟩

/-! #### BIT -/

section BitTest

variable (src : Src) (s : State)

theorem bitTest_flag_n : (bitTest src s).flag .n = (loadOperand src s).1.getLsbD 7 := by simp [bitTest]

theorem bitTest_flag_v : (bitTest src s).flag .v = (loadOperand src s).1.getLsbD 6 := by simp [bitTest]

theorem bitTest_flag_z : (bitTest src s).flag .z = (s.a &&& (loadOperand src s).1 == 0x00) := by simp [bitTest]

theorem bitTest_fetchesOnly : FetchesOnly src s (bitTest src s) := by simp [bitTest]

end BitTest

/-- Settles O41: BIT writes its three flags after the operand fetch, and nothing else. -/
theorem bitResult : Obligations.BitResult := by
  unfold Obligations.BitResult
  refine ⟨rfl, fun i src s hop hsrc => ?_⟩
  exact ⟨bitTest src s, exec_bit hop hsrc s, bitTest_flag_n src s, bitTest_flag_v src s, bitTest_flag_z src s,
    (bitTest_kept src s).mono (by simp) (by simp), bitTest_fetchesOnly src s⟩

end Sys2Proof.Machine

/-! ### Shifts, steps and flag instructions -/

namespace Sys2Proof.Machine

/-! #### The byte operations as arithmetic -/

theorem getLsbD_zero_eq_mod_two (b : Byte) : b.getLsbD 0 = decide (b.toNat % 2 = 1) := Nat.testBit_zero b.toNat

section ByteOps

variable (v : Byte) (c : Bool)

theorem shl_one_toNat : (v <<< 1).toNat = 2 * v.toNat % 256 := by
  rw [BitVec.toNat_shiftLeft, Nat.shiftLeft_eq, Nat.mul_comm]

theorem shr_one_toNat : (v >>> 1).toNat = v.toNat / 2 := Nat.shiftRight_eq_div_pow v.toNat 1

/-- Bit 0 is free after the shift left, so the carry that enters it is added (R173). -/
theorem rolOp_fst_toNat : (rolOp v c).1.toNat = (2 * v.toNat + c.toNat) % 256 := by
  have hc : c.toNat < 2 ^ 1 := c.toNat_lt
  have hbit : (if c then 0x01 else 0x00 : Byte).toNat = c.toNat := by cases c <;> rfl
  have heven : 2 * v.toNat % 256 = 2 ^ 1 * (v.toNat % 128) := Nat.mul_mod_mul_left 2 v.toNat 128
  rw [rolOp, BitVec.toNat_or, shl_one_toNat, hbit, heven, ← Nat.two_pow_add_eq_or_of_lt hc]
  omega

/-- Bit 7 is free after the shift right, so the carry that enters it is added (R174). -/
theorem rorOp_fst_toNat : (rorOp v c).1.toNat = v.toNat / 2 + 128 * c.toNat := by
  have hv := v.isLt
  have hlow : v.toNat / 2 < 2 ^ 7 := by omega
  have hbit : (if c then 0x80 else 0x00 : Byte).toNat = 2 ^ 7 * c.toNat := by cases c <;> rfl
  rw [rorOp, BitVec.toNat_or, shr_one_toNat, hbit, Nat.or_comm, ← Nat.two_pow_add_eq_or_of_lt hlow, Nat.add_comm]

/-- The rules of R171 to R174 are the model's four byte operations. -/
theorem shiftRule_eq_shiftOp (m : Mnemonic) : shiftRule m v.toNat c.toNat =
    (shiftOp m).map fun f => ((f v c).1.toNat, (f v c).2) := by
  cases m with
  | asl => exact congrArg some (Prod.ext (shl_one_toNat v).symm (getLsbD_seven v).symm)
  | lsr => exact congrArg some (Prod.ext (shr_one_toNat v).symm (getLsbD_zero_eq_mod_two v).symm)
  | rol => exact congrArg some (Prod.ext (rolOp_fst_toNat v c).symm (getLsbD_seven v).symm)
  | ror => exact congrArg some (Prod.ext (rorOp_fst_toNat v c).symm (getLsbD_zero_eq_mod_two v).symm)
  | _ => rfl

end ByteOps

/-- A mnemonic that the rules give a result has the byte operation with that result. -/
theorem exists_shiftOp {m : Mnemonic} {v : Byte} {c : Bool} {r : Nat} {co : Bool}
    (h : shiftRule m v.toNat c.toNat = some (r, co)) :
    ∃ f, shiftOp m = some f ∧ (f v c).1.toNat = r ∧ (f v c).2 = co := by
  rw [shiftRule_eq_shiftOp, Option.map_eq_some_iff] at h
  obtain ⟨f, hf, hres⟩ := h
  exact ⟨f, hf, congrArg Prod.fst hres, congrArg Prod.snd hres⟩

/-! #### The accumulator forms of the shifts -/

section ShiftA

variable (f : Byte → Bool → Byte × Bool) (s : State)

theorem shiftA_a : (shiftA f s).a = (f s.a (s.flag .c)).1 := rfl

theorem shiftA_flag_c : (shiftA f s).flag .c = (f s.a (s.flag .c)).2 := by simp [shiftA]

theorem shiftA_nzof : NZof (shiftA f s).a (shiftA f s) := nzof_setNZ _ _

theorem shiftA_sameMemory : SameMemory s (shiftA f s) := sameMemory_of rfl rfl

end ShiftA

/-! #### Read, modify, write -/

section Modify

variable {a : Word} {r : Byte} {s t : State}

@[simp] theorem wrote_setFlag (f : Flag) (v : Bool) : Wrote a r (s.setFlag f v) t ↔ Wrote a r s t := Iff.rfl

@[simp] theorem wrote_setNZ (v : Byte) : Wrote a r (setNZ v s) t ↔ Wrote a r s t := Iff.rfl

/-- The write half of a read-modify-write: `SetNZ` precedes it and touches neither memory nor trace. -/
theorem memWrite_setNZ_wrote (h : s.ramWf = true) (a : Word) (r : Byte) : Wrote a r s (memWrite a r (setNZ r s)) :=
  (wrote_setNZ r).1 (memWrite_wrote (s := setNZ r s) h a r)

theorem memWrite_setNZ_nzof (a : Word) (r : Byte) (s : State) : NZof r (memWrite a r (setNZ r s)) := by simp [NZof]

/-- The read half of a read-modify-write leaves RAM alone. -/
theorem ramWf_memTouch_ea (h : s.ramWf = true) (m : Mem) : (memTouch (ea m s).1 (ea m s).2).ramWf = true := by
  rw [State.ramWf, memTouch_ram, ea_ram]
  exact h

end Modify

/-! #### The memory forms of the shifts -/

section ShiftMem

variable (f : Byte → Bool → Byte × Bool) (m : Mem) (s : State)

/-- What the byte operation answers for the byte at EA and the carry. -/
def shiftedAt : Byte × Bool := f (memPeek (ea m s).1 (ea m s).2) (s.flag .c)

/-- The carry is read after the byte is fetched, which leaves it alone (R170). -/
theorem shiftMem_eq : shiftMem f m s = memWrite (ea m s).1 (shiftedAt f m s).1 (setNZ (shiftedAt f m s).1
    ((memTouch (ea m s).1 (ea m s).2).setFlag .c (shiftedAt f m s).2)) := by
  simp [shiftMem, memRead, shiftedAt]

theorem shiftMem_wrote (h : s.ramWf = true) :
    Wrote (ea m s).1 (shiftedAt f m s).1 (memTouch (ea m s).1 (ea m s).2) (shiftMem f m s) := by
  rw [shiftMem_eq]
  exact (wrote_setFlag .c _).1 (memWrite_setNZ_wrote (s := State.setFlag .c _ _) (ramWf_memTouch_ea h m) _ _)

theorem shiftMem_flag_c : (shiftMem f m s).flag .c = (shiftedAt f m s).2 := by simp [shiftMem_eq]

theorem shiftMem_nzof : NZof (shiftedAt f m s).1 (shiftMem f m s) := by
  rw [shiftMem_eq]
  exact memWrite_setNZ_nzof _ _ _

theorem shiftMem_penalty : (shiftMem f m s).penalty = s.penalty := by simp [shiftMem_eq]

end ShiftMem

/-- Settles O42: both forms run the byte operation of the rule, on A or between one read and one write at EA. -/
theorem shiftResult : Obligations.ShiftResult := by
  unfold Obligations.ShiftResult
  refine ⟨rfl, rfl, rfl, rfl, fun i r co s hacc hrule => ?acc, fun i m r co s hm hram hrule => ?mem⟩
  case acc =>
    obtain ⟨f, hf, hr, hco⟩ := exists_shiftOp hrule
    exact ⟨shiftA f s, exec_shiftA hf hacc s, by rw [shiftA_a, hr], (shiftA_flag_c f s).trans hco, shiftA_nzof f s,
      (shiftA_kept f s).mono (by simp) (by simp), shiftA_sameMemory f s, rfl, rfl⟩
  case mem =>
    obtain ⟨f, hf, hr, hco⟩ := exists_shiftOp hrule
    have hbyte : (shiftedAt f m s).1 = r := BitVec.eq_of_toNat_eq hr
    exact ⟨shiftMem f m s, exec_shiftMem hf hm s, hbyte ▸ shiftMem_wrote f m s hram,
      (shiftMem_flag_c f m s).trans hco, hbyte ▸ shiftMem_nzof f m s, (shiftMem_kept f m s).mono (by simp) (by simp),
      shiftMem_penalty f m s⟩

/-! #### INC and DEC -/

/-- Subtracting one mod 256 is adding 0xFF (R176). -/
theorem sub_one_eq_add (v : Byte) : v - 1 = v + 0xFF := sub_eq_add_neg v 1

/-- INC and DEC, each with the byte it adds (R175, R176). -/
theorem exec_stepMem {i : Instr} {d : Byte} {m : Mem} (h : (i.op, d) ∈ [(Mnemonic.inc, (0x01 : Byte)), (.dec, 0xFF)])
    (hm : i.operand = .src (.mem m)) (s : State) : exec i s = .next (stepMem (· + d) m s) := by
  simp only [List.mem_cons, List.not_mem_nil, or_false, Prod.mk.injEq] at h
  obtain ⟨hop, rfl⟩ | ⟨hop, rfl⟩ := h
  · exact exec_inc hop hm s
  · rw [exec_dec hop hm s, funext sub_one_eq_add]

section StepMem

variable (f : Byte → Byte) (m : Mem) (s : State)

theorem stepMem_wrote (h : s.ramWf = true) : Wrote (ea m s).1 (f (memPeek (ea m s).1 (ea m s).2))
    (memTouch (ea m s).1 (ea m s).2) (stepMem f m s) :=
  memWrite_setNZ_wrote (ramWf_memTouch_ea h m) _ _

theorem stepMem_nzof : NZof (f (memPeek (ea m s).1 (ea m s).2)) (stepMem f m s) := memWrite_setNZ_nzof _ _ _

theorem stepMem_penalty : (stepMem f m s).penalty = s.penalty := by simp [stepMem, memRead]

end StepMem

/-- Settles O43: a step of memory is one read and one write at EA, with `SetNZ` between them. -/
theorem incDecMemoryResult : Obligations.IncDecMemoryResult := by
  unfold Obligations.IncDecMemoryResult
  refine ⟨rfl, rfl, fun i d m s hi hm hram => ?_⟩
  exact ⟨stepMem (· + d) m s, exec_stepMem hi hm s, stepMem_wrote _ m s hram, stepMem_nzof _ m s, stepMem_kept _ m s,
    stepMem_penalty _ m s⟩

/-! #### INX, INY, DEX and DEY -/

/-- The four instructions, each with its register and the number it adds (R177 to R180). -/
theorem exec_stepReg {i : Instr} {r : Reg} {d : Nat}
    (h : (i, r, d) ∈ [(Instr.inx, Reg.x, 1), (.iny, .y, 1), (.dex, .x, 255), (.dey, .y, 255)]) (s : State) :
    exec i s = .next (stepReg (· + BitVec.ofNat 8 d) r s) := by
  have hsub : (fun v : Byte => v - 1) = (· + BitVec.ofNat 8 255) := funext sub_one_eq_add
  simp only [List.mem_cons, List.not_mem_nil, or_false, Prod.mk.injEq] at h
  obtain ⟨rfl, rfl, rfl⟩ | ⟨rfl, rfl, rfl⟩ | ⟨rfl, rfl, rfl⟩ | ⟨rfl, rfl, rfl⟩ := h
  case inl | inr.inl => rfl
  all_goals rw [← hsub]; rfl

theorem ne_st_of_stepReg {i : Instr} {r : Reg} {d : Nat}
    (h : (i, r, d) ∈ [(Instr.inx, Reg.x, 1), (.iny, .y, 1), (.dex, .x, 255), (.dey, .y, 255)]) : r ≠ .st := by
  rintro rfl
  simp at h

section StepReg

variable (f : Byte → Byte) (r : Reg) (s : State)

theorem readReg_stepReg (hr : r ≠ .st) : readReg r (stepReg f r s) = f (readReg r s) := readReg_setNZ_writeReg hr _ s

theorem stepReg_nzof : NZof (f (readReg r s)) (stepReg f r s) := nzof_setNZ _ _

theorem stepReg_sameMemory : SameMemory s (stepReg f r s) := sameMemory_of (writeReg_ram r _ s) (writeReg_rom r _ s)

theorem stepReg_events : (stepReg f r s).events = s.events := writeReg_events r _ s

theorem stepReg_penalty : (stepReg f r s).penalty = s.penalty := writeReg_penalty r _ s

end StepReg

/-- Settles O44: a step of a register is one register write and `SetNZ`; neither touches the bus. -/
theorem incDecRegisterResult : Obligations.IncDecRegisterResult := by
  unfold Obligations.IncDecRegisterResult
  refine ⟨rfl, rfl, rfl, rfl, fun i r d s hi => ?_⟩
  have hr := ne_st_of_stepReg hi
  have hread : readReg r (stepReg (· + BitVec.ofNat 8 d) r s) = readReg r s + BitVec.ofNat 8 d :=
    readReg_stepReg _ r s hr
  refine ⟨stepReg (· + BitVec.ofNat 8 d) r s, exec_stepReg hi s, ?value, hread ▸ stepReg_nzof _ r s,
    stepReg_kept _ hr s, stepReg_sameMemory _ r s, stepReg_events _ r s, stepReg_penalty _ r s⟩
  case value => rw [hread, BitVec.toNat_add, BitVec.toNat_ofNat, Nat.add_mod_mod]

/-! #### The flag instructions and NOP -/

/-- Each flag instruction is one flag write (R182 to R188). -/
theorem exec_flagInstr {i : Instr} {f : Flag} {v : Bool}
    (h : (i, f, v) ∈ [(Instr.sec, Flag.c, true), (.clc, .c, false), (.sei, .i, true), (.cli, .i, false),
      (.sed, .d, true), (.cld, .d, false), (.clv, .v, false)]) (s : State) : exec i s = .next (s.setFlag f v) := by
  simp only [List.mem_cons, List.not_mem_nil, or_false, Prod.mk.injEq] at h
  obtain ⟨rfl, rfl, rfl⟩ | ⟨rfl, rfl, rfl⟩ | ⟨rfl, rfl, rfl⟩ | ⟨rfl, rfl, rfl⟩ | ⟨rfl, rfl, rfl⟩ | ⟨rfl, rfl, rfl⟩ |
    ⟨rfl, rfl, rfl⟩ := h <;> rfl

/-- Settles O45: the new status is `withFlag` of the old one, which writes the named bit only. -/
theorem flagInstructionResult : Obligations.FlagInstructionResult := by
  unfold Obligations.FlagInstructionResult
  refine ⟨rfl, rfl, rfl, rfl, rfl, rfl, rfl, fun i f v s hi => ?_⟩
  refine ⟨withFlag f v s.st, exec_flagInstr hi s, ?named, fun g hg => ?others⟩ <;> rw [withFlag_getLsbD]
  case named => exact if_pos rfl
  case others => exact if_neg hg

/-- Settles O46: NOP's arm answers the state it was given. -/
theorem nopChangesNothing : Obligations.NopChangesNothing := by
  unfold Obligations.NopChangesNothing
  exact ⟨rfl, rfl, fun _ => rfl⟩

end Sys2Proof.Machine

/-! ### Control flow -/

namespace Sys2Proof.Machine

/-! #### Branches -/

section Branch

variable (f : Flag) (off : Byte) (s : State)

/-- A taken branch as one update of the state (R200). -/
theorem takeBranch_eq : takeBranch off s = { s with pc := s.pc + sext16 off, penalty := s.penalty + 1 } := by
  rw [takeBranch, getAddr_rel]
  rfl

theorem brcSet_mask : brcSet f.mask off s = if s.flag f = true then takeBranch off s else s :=
  if_congr (and_mask_ne_zero f s.st) rfl rfl

theorem brcRst_mask : brcRst f.mask off s = if s.flag f = false then takeBranch off s else s :=
  if_congr ((not_iff_comm.1 (and_mask_ne_zero f s.st)).symm.trans (Bool.not_eq_true _).to_iff) rfl rfl

end Branch

/-- Each branch tests the flag and the value that the table of R201 to R208 gives it. -/
theorem exec_branch {i : Instr} {f : Flag} {v : Bool} {off : Byte} (h : (i.op, f, v) ∈ branchOps)
    (hoff : i.operand = .rel off) (s : State) : exec i s = .next (if s.flag f = v then takeBranch off s else s) := by
  have hrun := exec_runs i
  rw [hoff] at hrun
  generalize i.op = m at h hrun
  generalize exec i = run at hrun
  cases hrun <;> simp only [branchOps, List.mem_cons, Prod.mk.injEq, reduceCtorEq, false_and, false_or, or_false,
    true_and, List.not_mem_nil] at h <;> obtain ⟨rfl, rfl⟩ := h
  case bcs | beq | bmi | bvs => exact congrArg _ (brcSet_mask _ off s)
  case bcc | bne | bpl | bvc => exact congrArg _ (brcRst_mask _ off s)

/-- Settles O47: a branch is `takeBranch` exactly where its flag has the value tested for. -/
theorem branchResult : Obligations.BranchResult := by
  unfold Obligations.BranchResult
  refine ⟨rfl, rfl, rfl, rfl, rfl, rfl, rfl, rfl, fun i f v off s hi hoff => ?_⟩
  rw [exec_branch hi hoff]
  refine ⟨fun htaken => ?taken, fun hnot => ?notTaken⟩
  case taken => rw [if_pos htaken, takeBranch_eq]
  case notTaken => rw [if_neg hnot]

/-! #### JMP -/

/-- Settles O48: the indirect form's two reads are `readPtr`, whose second address lies in the page of the first. -/
theorem jmpResult : Obligations.JmpResult := by
  unfold Obligations.JmpResult
  refine ⟨rfl, fun b1 b2 s => ⟨rfl, ?indirect⟩⟩
  have hnext : nextInPage (mkWord b2 b1) = mkWord b2 (b1 + 1) := by
    rw [nextInPage, hiByte_mkWord, loByte_mkWord]
  rw [← hnext]
  rfl

/-! #### A push or a pop followed by the rest of the operation -/

section Continue

variable {α : Type} {s : State} {opc : Word} {n : Nat}

theorem push_bind_ok (h : 0 < s.sp.toNat) {v : Byte} (f : State → Except State α) :
    (push opc n v s).bind f = f (s.pushed v) := by
  rw [push_eq_ok h]
  rfl

theorem push_bind_error (h : s.sp = 0x00) {v : Byte} (f : State → Except State α) :
    (push opc n v s).bind f = .error (raise (.stackOverflow 0x00 opc n) s) := by
  rw [push_eq_error h]
  rfl

theorem pop_bind_ok (h : s.sp.toNat < 255) (f : Byte × State → Except State α) :
    (pop opc n s).bind f = f (s.ram.read (256 + s.sp.toNat + 1), writeReg .sp (s.sp + 1) s) := by
  rw [pop_eq_ok h]
  rfl

theorem pop_bind_error (h : s.sp = 0xFF) (f : Byte × State → Except State α) :
    (pop opc n s).bind f = .error (raise (.stackUnderflow 0xFF opc n) s) := by
  rw [pop_eq_error h]
  rfl

end Continue

/-! #### JSR and RTS -/

section Subroutine

variable {s : State}

/-- The two bytes JSR pushes: the address of its own last byte, high byte first (R210). -/
def State.returnBytes (s : State) : List Byte := [hiByte (s.pc - 1), loByte (s.pc - 1)]

theorem exec_jsr (b1 b2 : Byte) (s : State) : exec (.jsr b1 b2) s = settle (callSub b1 b2 s) := rfl

theorem exec_rts (s : State) : exec .rts s = settle (returnSub s) := rfl

theorem exec_jsr_of_room (h : 2 ≤ s.sp.toNat) (b1 b2 : Byte) :
    exec (.jsr b1 b2) s = .next ((s.pushedAll s.returnBytes).setPc (mkWord b2 b1)) := by
  have hsecond : 0 < (s.pushed (hiByte (s.pc - 1))).sp.toNat := by rw [pushed_sp_toNat (by omega)]; omega
  rw [exec_jsr, callSub, push_bind_ok (by omega), push_bind_ok hsecond]
  rfl

theorem exec_jsr_of_one (h : s.sp = 0x01) (b1 b2 : Byte) : exec (.jsr b1 b2) s =
    .next (raise (.stackOverflow 0x00 (s.pc - 3) 2) (s.pushedAll [hiByte (s.pc - 1)])) := by
  have hfull : (s.pushed (hiByte (s.pc - 1))).sp = 0x00 := congrArg (· - 1) h
  rw [exec_jsr, callSub, push_bind_ok (by simp [h]), push_bind_error hfull]
  rfl

theorem exec_jsr_of_full (h : s.sp = 0x00) (b1 b2 : Byte) :
    exec (.jsr b1 b2) s = .next (raise (.stackOverflow 0x00 (s.pc - 3) 1) s) := by
  rw [exec_jsr, callSub, push_bind_error h]
  rfl

/-- Settles O49: JSR is the two pushes and a jump; where a push faults, the ones before it stay. -/
theorem jsrResult : Obligations.JsrResult := by
  unfold Obligations.JsrResult
  refine ⟨rfl, fun b1 b2 s hram => ⟨fun hroom => ?room, fun hone => ?one, fun hfull => exec_jsr_of_full hfull b1 b2⟩⟩
  case room =>
    refine ⟨_, exec_jsr_of_room hroom b1 b2, pushedAll_stackHolds (vs := s.returnBytes) hram hroom,
      pushedAll_sp s.returnBytes s, rfl, ?_, rfl, rfl⟩
    exact (pushedAll_kept s.returnBytes s).trans (setPc_kept _ _)
  case one =>
    have hlen : [hiByte (s.pc - 1)].length ≤ s.sp.toNat := by simp [hone]
    exact ⟨_, exec_jsr_of_one hone b1 b2, pushedAll_stackHolds hram hlen, congrArg (· - 1) hone, rfl, rfl, rfl, rfl,
      (pushedAll_kept [hiByte (s.pc - 1)] s).1, rfl⟩

theorem exec_rts_of_room (h : s.sp.toNat ≤ 0xFD) : exec .rts s = .next ((writeReg .sp (s.sp + 2) s).setPc
    (mkWord (s.ram.read (256 + s.sp.toNat + 2)) (s.ram.read (256 + s.sp.toNat + 1)) + 1)) := by
  have hsucc := sp_succ_toNat (s := s) (by omega)
  have hsp : s.sp + 1 + 1 = s.sp + 2 := BitVec.add_assoc s.sp 1 1
  rw [exec_rts, returnSub, pop_bind_ok (by omega), pop_bind_ok (by rw [writeReg_sp_sp, hsucc]; omega)]
  simp only [writeReg_sp_sp, writeReg_ram, hsucc, hsp]
  rfl

theorem exec_rts_of_one (h : s.sp = 0xFE) :
    exec .rts s = .next (raise (.stackUnderflow 0xFF (s.pc - 1) 2) (writeReg .sp 0xFF s)) := by
  have hnext : s.sp + 1 = 0xFF := congrArg (· + 1) h
  rw [exec_rts, returnSub, pop_bind_ok (by simp [h]), hnext, pop_bind_error rfl]
  rfl

theorem exec_rts_of_empty (h : s.sp = 0xFF) :
    exec .rts s = .next (raise (.stackUnderflow 0xFF (s.pc - 1) 1) s) := by
  rw [exec_rts, returnSub, pop_bind_error h]
  rfl

/-- Settles O50: RTS is two pops and a jump; where a pop faults, the one before it stays. -/
theorem rtsResult : Obligations.RtsResult := by
  unfold Obligations.RtsResult
  exact ⟨rfl, fun _ => ⟨exec_rts_of_room, exec_rts_of_one, exec_rts_of_empty⟩⟩

/-- The word above SP after a JSR, plus one, is the address after the JSR (R210, R211). -/
theorem wordAbove_pushedAll_returnBytes (hram : s.ramWf = true) (hroom : 2 ≤ s.sp.toNat) :
    let t := s.pushedAll s.returnBytes
    mkWord (t.ram.read (256 + t.sp.toNat + 2)) (t.ram.read (256 + t.sp.toNat + 1)) + 1 = s.pc := by
  obtain ⟨hlo, habove⟩ := List.cons.inj (bytesAbove_pushedAll (vs := s.returnBytes) hram hroom)
  obtain ⟨hhi, -⟩ := List.cons.inj habove
  exact (congrArg (· + 1) ((congrArg₂ mkWord hhi hlo).trans (mkWord_hiByte_loByte _))).trans
    (BitVec.sub_add_cancel s.pc 1)

/-- Settles O51: RTS pops what JSR pushed and adds back the one that JSR took off. -/
theorem subroutineReturnsAfterCall : Obligations.SubroutineReturnsAfterCall := by
  unfold Obligations.SubroutineReturnsAfterCall
  intro b1 b2 p s t hram hroom ht
  obtain rfl := Host.Outcome.next.inj ((exec_jsr_of_room hroom b1 b2).symm.trans ht)
  have hback : (s.pushedAll s.returnBytes).sp + 2 = s.sp := by
    rw [pushedAll_sp]
    exact BitVec.sub_add_cancel s.sp 2
  have htwo : (s.pushedAll s.returnBytes).sp.toNat ≤ 0xFD := by
    rw [pushedAll_sp_toNat (vs := s.returnBytes) hroom]
    exact Nat.sub_le_sub_right (Nat.le_of_lt_succ s.sp.isLt) 2
  have hpc := wordAbove_pushedAll_returnBytes hram hroom
  refine ⟨_, exec_rts_of_room (s := (s.pushedAll s.returnBytes).setPc p) htwo, hpc,
    Kept.of_cons (r := .pch) (.of_cons (r := .pcl) (.of_cons (r := .sp) ?_ hback) (congrArg loByte hpc))
      (congrArg hiByte hpc)⟩
  exact (((pushedAll_kept s.returnBytes s).trans (setPc_kept p _)).trans
    ((writeReg_kept (by decide) _ _).trans (setPc_kept _ _))).mono (by simp) (by simp)

end Subroutine

/-! #### Entering a handler -/

section Enter

variable {s : State}

/-- The three bytes an interrupt entry pushes (R261). -/
def State.entryBytes (brk : Bool) (s : State) : List Byte := [hiByte s.pc, loByte s.pc, pushedStatus brk s.st]

/-- The state after an interrupt entry to the handler at `target`, onto a stack with room for its bytes (R261). -/
def State.entered (brk : Bool) (target : Word) (s : State) : State :=
  ((s.pushedAll (s.entryBytes brk)).setFlag .i true).setPc target

theorem entered_stackHolds (hram : s.ramWf = true) (h : 3 ≤ s.sp.toNat) (brk : Bool) (target : Word) :
    StackHolds (s.entryBytes brk) s (s.entered brk target) :=
  pushedAll_stackHolds (vs := s.entryBytes brk) hram h

theorem entered_flag_i (brk : Bool) (target : Word) (s : State) : (s.entered brk target).flag .i = true :=
  (flag_setFlag .i .i true _).trans (if_pos rfl)

theorem entered_kept (brk : Bool) (target : Word) (s : State) :
    Kept [.sp, .pcl, .pch] [.i] s (s.entered brk target) :=
  ((pushedAll_kept (s.entryBytes brk) s).trans (setFlag_kept .i true _)).trans (setPc_kept target _)

theorem intEntry_of_room (h : 3 ≤ s.sp.toNat) (opc : Word) (brk : Bool) {vector : Word} (hv : 0x8000 ≤ vector.toNat)
    (hv' : vector.toNat < 0xFFFF) : intEntry opc vector brk s =
      .ok (s.entered brk (mkWord (s.rom.read (vector.toNat + 1)) (s.rom.read vector.toNat))) := by
  have htwo : s.sp - 2 = s.sp - 1 - 1 := (BitVec.sub_sub s.sp 1 1).symm
  have hthree : s.sp - 3 = s.sp - 1 - 1 - 1 := by rw [← htwo]; exact (BitVec.sub_sub s.sp 2 1).symm
  rw [intEntry_ok h opc vector brk hv hv', hthree, htwo]
  rfl

/-- Without room for the three bytes, those that fit are pushed and the next push faults (R254). -/
theorem intEntry_of_short (h : s.sp.toNat ≤ 2) (opc vector : Word) (brk : Bool) : intEntry opc vector brk s =
    .error (raise (.stackOverflow 0x00 opc (s.sp.toNat + 1)) (s.pushedAll ((s.entryBytes brk).take s.sp.toNat))) := by
  obtain hsp | hsp | hsp : s.sp = 0x00 ∨ s.sp = 0x01 ∨ s.sp = 0x02 := by bv_omega
  · rw [intEntry, push_bind_error hsp, hsp]
    rfl
  · have hfull : (s.pushed (hiByte s.pc)).sp = 0x00 := congrArg (· - 1) hsp
    rw [intEntry, push_bind_ok (by simp [hsp]), push_bind_error hfull, hsp]
    rfl
  · have hone : (s.pushed (hiByte s.pc)).sp = 0x01 := congrArg (· - 1) hsp
    have hfull : ((s.pushed (hiByte s.pc)).pushed (loByte s.pc)).sp = 0x00 := congrArg (· - 1) hone
    rw [intEntry, push_bind_ok (by simp [hsp]), push_bind_ok (by simp [hone]), push_bind_error (by exact hfull), hsp]
    rfl

/-- The pushes that fit and the fault of the next one are what `EntryFaulted` says. -/
theorem pushedAll_take_entryFaulted (hram : s.ramWf = true) {bytes : List Byte} (h : s.sp.toNat ≤ bytes.length)
    (opc : Word) : EntryFaulted opc s.pc bytes s
      (raise (.stackOverflow 0x00 opc (s.sp.toNat + 1)) (s.pushedAll (bytes.take s.sp.toNat))) := by
  have hlen : (bytes.take s.sp.toNat).length = s.sp.toNat := List.length_take_of_le h
  have hkept := pushedAll_kept (bytes.take s.sp.toNat) s
  have hpc := hkept.frame.keeps_pc (by decide) (by decide)
  obtain ⟨hregs, hflags, -, -, hcycles, hrom, hsched⟩ := hkept
  refine ⟨pushedAll_stackHolds hram hlen.le, ?_, hpc, st_ext fun f => hflags f List.not_mem_nil, ?_, ?_, ?_, rfl, rfl,
    pushedAll_events _ s, hrom, pushedAll_penalty _ s, hcycles, hsched⟩
  · rw [raise_sp, pushedAll_sp, hlen, BitVec.ofNat_toNat, BitVec.setWidth_eq, BitVec.sub_self]
    rfl
  · exact hregs .a (by decide) (by decide)
  · exact hregs .x (by decide) (by decide)
  · exact hregs .y (by decide) (by decide)

/-- Settles O14: BRK is the entry sequence run at the address after its padding byte. -/
theorem brkEntersHandler : Obligations.BrkEntersHandler := by
  unfold Obligations.BrkEntersHandler
  refine ⟨rfl, fun s hram => ⟨fun hroom => ?room, fun hshort => ?short⟩⟩
  case room =>
    refine ⟨_, congrArg settle (intEntry_of_room (s := s.setPc (s.pc + 1)) hroom _ true (by decide) (by decide)),
      entered_stackHolds (s := s.setPc (s.pc + 1)) hram hroom true _, pushedAll_sp _ _, rfl, entered_flag_i _ _ _, ?_,
      pushedAll_events _ _, pushedAll_penalty _ _⟩
    exact ((setPc_kept _ s).trans (entered_kept _ _ _)).mono (by simp) (by simp)
  case short =>
    refine ⟨_, congrArg settle (intEntry_of_short (s := s.setPc (s.pc + 1)) hshort _ _ true), ?_⟩
    exact pushedAll_take_entryFaulted (s := s.setPc (s.pc + 1)) (bytes := (s.setPc (s.pc + 1)).entryBytes true) hram
      (Nat.le_succ_of_le hshort) _

end Enter

/-! #### RTI -/

section Return

variable {s : State}

theorem exec_rti (s : State) : exec .rti s = settle (intReturn (s.pc - 1) s) := rfl

theorem exec_rti_of_room (h : s.sp.toNat ≤ 0xFC) : exec .rti s = .next
    { s with sp := s.sp + 3, st := s.ram.read (256 + s.sp.toNat + 1),
             pc := mkWord (s.ram.read (256 + s.sp.toNat + 3)) (s.ram.read (256 + s.sp.toNat + 2)) } := by
  rw [exec_rti, intReturn_ok h]
  rfl

theorem exec_rti_of_two (h : s.sp = 0xFD) : exec .rti s = .next (raise (.stackUnderflow 0xFF (s.pc - 1) 3)
    (writeReg .sp 0xFF (writeReg .st (s.ram.read 0x1FE) s))) := by
  have hnext : s.sp + 1 = 0xFE := congrArg (· + 1) h
  rw [exec_rti, intReturn, pop_bind_ok (by simp [h]), hnext, pop_bind_ok (by exact Nat.lt_succ_self 254),
    pop_bind_error rfl, h]
  rfl

theorem exec_rti_of_one (h : s.sp = 0xFE) : exec .rti s = .next (raise (.stackUnderflow 0xFF (s.pc - 1) 2)
    (writeReg .sp 0xFF (writeReg .st (s.ram.read 0x1FF) s))) := by
  have hnext : s.sp + 1 = 0xFF := congrArg (· + 1) h
  rw [exec_rti, intReturn, pop_bind_ok (by simp [h]), hnext, pop_bind_error rfl, h]
  rfl

theorem exec_rti_of_empty (h : s.sp = 0xFF) :
    exec .rti s = .next (raise (.stackUnderflow 0xFF (s.pc - 1) 1) s) := by
  rw [exec_rti, intReturn, pop_bind_error h]
  rfl

/-- Settles O16: RTI is three pops, the first into ST at once, and a jump; where a pop faults, the ones before it
stay. -/
theorem rtiRestoresStatusAndPc : Obligations.RtiRestoresStatusAndPc := by
  unfold Obligations.RtiRestoresStatusAndPc
  refine ⟨rfl, fun s => ⟨fun hroom => ?room, fun h => exec_rti_of_two (BitVec.eq_of_toNat_eq h),
    fun h => exec_rti_of_one (BitVec.eq_of_toNat_eq h), fun h => exec_rti_of_empty (BitVec.eq_of_toNat_eq h)⟩⟩
  obtain ⟨hregs, hflags⟩ := exec_frame (exec_rti_of_room hroom)
  exact ⟨_, exec_rti_of_room hroom, rfl, rfl, rfl, ⟨hregs, hflags, rfl, rfl, rfl, rfl, rfl⟩, sameMemory_of rfl rfl,
    rfl, rfl⟩

end Return

end Sys2Proof.Machine

/-! ### The controller -/

namespace Sys2Proof.Machine

/-! #### What an instruction does to the controller -/

section Control

variable {s₀ s t : State}

/-- The core has halted with a fault on record (R254). -/
def State.Faulted (s : State) : Prop := s.ctl = .halted ∧ s.fault.isSome = true

theorem raise_faulted (f : FaultInfo) (s : State) : (raise f s).Faulted := ⟨rfl, rfl⟩

theorem Kept.sameControl {rs : List Reg} {fs : List Flag} (h : Kept rs fs s t) : SameControl s t := by
  obtain ⟨-, -, hc⟩ := h
  exact hc

theorem SameControl.refl (s : State) : SameControl s s := (Kept.refl [] [] s).sameControl

theorem writeReg_sameControl (r : Reg) (v : Byte) (s : State) : SameControl s (writeReg r v s) := by
  cases r <;> exact .refl s

/-- A push raises or leaves the controller alone (R140). -/
theorem push_control (h : SameControl s₀ s) (opc : Word) (n : Nat) (v : Byte) :
    Ends State.Faulted (SameControl s₀) (push opc n v s) := by
  rcases push_cases opc n v s with ⟨_, e⟩ | ⟨_, e⟩ <;> rw [e]
  · exact raise_faulted _ s
  · exact h

/-- A pop raises or leaves the controller alone (R141). -/
theorem pop_control (h : SameControl s₀ s) (opc : Word) (n : Nat) :
    Ends State.Faulted (fun p => SameControl s₀ p.2) (pop opc n s) := by
  rcases pop_cases opc n s with ⟨_, e⟩ | ⟨_, e⟩ <;> rw [e]
  · exact raise_faulted _ s
  · exact h

theorem pullA_control (s : State) : Ends State.Faulted (SameControl s) (pullA s) :=
  (pop_control (.refl s) _ _).bind fun _ hp => hp

theorem pullStatus_control (s : State) : Ends State.Faulted (SameControl s) (pullStatus s) :=
  (pop_control (.refl s) _ _).bind fun _ hp => hp

theorem callSub_control (b1 b2 : Byte) (s : State) : Ends State.Faulted (SameControl s) (callSub b1 b2 s) :=
  (push_control (.refl s) _ _ _).bind fun _ h1 => (push_control h1 _ _ _).bind fun _ h2 => h2

theorem returnSub_control (s : State) : Ends State.Faulted (SameControl s) (returnSub s) :=
  (pop_control (.refl s) _ _).bind fun _ hlo => (pop_control hlo _ _).bind fun _ hhi => hhi

theorem intEntry_control (h : SameControl s₀ s) (opc vector : Word) (brk : Bool) :
    Ends State.Faulted (SameControl s₀) (intEntry opc vector brk s) :=
  (push_control h _ _ _).bind fun _ h1 =>
    (push_control h1 _ _ _).bind fun _ h2 =>
      (push_control h2 _ _ _).bind fun s3 h3 =>
        h3.trans ((memTouch_kept _ (s3.setFlag .i true)).trans (memTouch_kept _ _)).sameControl

theorem intReturn_control (opc : Word) (s : State) : Ends State.Faulted (SameControl s) (intReturn opc s) :=
  (pop_control (.refl s) _ _).bind fun p hst =>
    (pop_control (s := writeReg .st p.1 p.2) hst _ _).bind fun _ hlo => (pop_control hlo _ _).bind fun _ hhi => hhi

/-- Only a push or a pop halts the core, and it does so by raising; every other family keeps the controller. -/
theorem Runs.faulted_or_sameControl {m : Mnemonic} {o : Operand} {f : State → Result} (h : Runs m o f)
    (ht : f s = .next t) : t.Faulted ∨ SameControl s t := by
  cases h with
  | pha | php => exact (push_control (.refl s) _ _ _).settle ht
  | pla => exact (pullA_control s).settle ht
  | plp => exact (pullStatus_control s).settle ht
  | jsr b1 b2 => exact (callSub_control b1 b2 s).settle ht
  | rts => exact (returnSub_control s).settle ht
  | brk => exact (intEntry_control (s := s.setPc (s.pc + 1)) (.refl s) _ _ _).settle ht
  | rti => exact (intReturn_control _ s).settle ht
  | lda src | ldx src | ldy src => cases ht; exact .inr (load_kept (by decide) src s).sameControl
  | sta m | stx m | sty m => cases ht; exact .inr (store_kept _ m s).sameControl
  | tax | tay | txa | tya | tsx => cases ht; exact .inr (transfer_kept (by decide) (by decide) _ s).sameControl
  | txs => cases ht; exact .inr (transfer_sp_kept _ s).sameControl
  | adc src | sbc src => cases ht; exact .inr (addToA_kept _ src s).sameControl
  | and src | eor src | ora src => cases ht; exact .inr (logic_kept _ src s).sameControl
  | cmp src | cpx src | cpy src => cases ht; exact .inr (compareReg_kept _ src s).sameControl
  | bit src => cases ht; exact .inr (bitTest_kept src s).sameControl
  | aslA | lsrA | rolA | rorA => cases ht; exact .inr (shiftA_kept _ s).sameControl
  | asl m | lsr m | rol m | ror m => cases ht; exact .inr (shiftMem_kept _ m s).sameControl
  | inc m | dec m => cases ht; exact .inr (stepMem_kept _ m s).sameControl
  | inx | iny | dex | dey => cases ht; exact .inr (stepReg_kept _ (by decide) s).sameControl
  | sec | sei | sed | clc | cli | cld | clv | nop => cases ht; exact .inr (.refl s)
  | bcs b1 | beq b1 | bmi b1 | bvs b1 => cases ht; exact .inr (brcSet_kept _ b1 s).sameControl
  | bcc b1 | bne b1 | bpl b1 | bvc b1 => cases ht; exact .inr (brcRst_kept _ b1 s).sameControl
  | jmp m => cases ht; exact .inr (jump_kept m s).sameControl

end Control

/-! #### Which transitions are enabled -/

/-- Outside Run only `Rst` and `clock()` are enabled (R236, R290). -/
theorem transition_notEnabled {e : Entry} (he : e ∈ [.step, .nmi, .irq]) {s : State} (h : s.ctl ≠ .run) :
    transition e s = .fault (.notEnabled e s.ctl) := by
  cases e with
  | step | nmi | irq =>
    unfold transition
    dsimp only [stepInstr]
    split <;> [contradiction; rfl]
  | rst | clock => exact absurd he (by decide)

/-- Settles O18: the call is refused by the controller state alone, `Rst` always ends in Run, and an instruction leaves
the controller alone unless it raises. -/
theorem haltedEnablesOnlyRst : Obligations.HaltedEnablesOnlyRst := by
  unfold Obligations.HaltedEnablesOnlyRst
  refine ⟨fun s hs => ?enabled, fun i s t hs ht => ?exec⟩
  case enabled =>
    have hstop {e : Entry} (he : e ∈ [.step, .nmi, .irq]) : transition e s = .fault (.notEnabled e .halted) :=
      hs ▸ transition_notEnabled he (by simp [hs])
    exact ⟨hstop (by decide), hstop (by decide), hstop (by decide), rst s, rfl, rfl⟩
  case exec =>
    obtain hfault | ⟨hctl, hrecord, -⟩ := (exec_runs i).faulted_or_sameControl ht
    · exact .inr hfault
    · exact .inl ⟨hctl.trans hs, hrecord⟩

/-! #### The bytes of a step -/

/-- `Fetch8` moves `pc` on by one, so `n` of them move it by `n` mod 2^16 (R34). -/
theorem fetchBytes_pc (n : Nat) (s : State) : (fetchBytes n s).2.pc = s.pc + BitVec.ofNat 16 n := by
  induction n generalizing s with
  | zero => exact (BitVec.add_zero s.pc).symm
  | succ n ih =>
    calc (fetchBytes (n + 1) s).2.pc
      _ = s.pc + 1 + BitVec.ofNat 16 n := ih _
      _ = s.pc + BitVec.ofNat 16 (n + 1) := by rw [BitVec.add_assoc, Nat.add_comm n, BitVec.ofNat_add]; rfl

theorem fetchBytes_length (n : Nat) (s : State) : (fetchBytes n s).1.length = n := by
  induction n generalizing s with
  | zero => rfl
  | succ n ih => exact congrArg (· + 1) (ih _)

/-- A defined opcode byte fetches the operand bytes its form needs and builds its row's instruction of them (R231 to
R233). -/
theorem fetchInstr_of_lookup {s : State} {r : Row} (h : lookup (fetch8 s).1 = some r) {n : Nat}
    (hn : n + 1 = r.form.length) :
    fetchInstr s = .ok (r.instr (fetchBytes n (fetch8 s).2).1, (fetchBytes n (fetch8 s).2).2) := by
  simp only [fetchInstr, h, ← hn]
  obtain rfl | rfl | rfl : n = 0 ∨ n = 1 ∨ n = 2 := by
    have hmax : r.form.length ≤ maxLength := by cases r.form <;> decide
    rw [← hn, maxLength] at hmax
    omega
  all_goals rfl

/-- The fetch of a step reads what `decode` reads of the bytes at `pc` (R88, R231 to R233). -/
theorem fetchInstr_of_decode {s : State} {i : Instr} (h : decode (fetchBytes i.length s).1 = .ok (i, [])) :
    fetchInstr s = .ok (i, (fetchBytes i.length s).2) := by
  obtain ⟨opcode, r, operands, hr, hlen, hbytes, hi⟩ := decode_eq_ok h
  rw [List.append_nil] at hbytes
  have hn : i.length = operands.length + 1 := by
    rw [← fetchBytes_length i.length s, hbytes, List.length_cons]
  rw [hn] at hbytes ⊢
  obtain ⟨hop, hops⟩ := List.cons.inj hbytes
  rw [fetchInstr_of_lookup (hop ▸ hr) hlen, hops, ← hi]
  rfl

/-! #### The step and the clock -/

theorem stepInstr_of_fetch {s u : State} {i : Instr} (hctl : s.ctl = .run) (hf : fetchInstr s = .ok (i, u)) :
    stepInstr s = runInstr i u := by
  simp only [stepInstr, hctl, hf]

theorem runInstr_of_exec {s t : State} {i : Instr} (h : exec i s = .next t) : runInstr i s = .next (retire i t) := by
  simp only [runInstr, h]

theorem retire_of_run {t : State} (h : t.ctl = .run) (i : Instr) :
    retire i t = { t with cyclesLeft := baseCycles i + t.penalty, penalty := 0 } := by
  simp only [retire, h]

theorem retire_of_not_run {t : State} (h : t.ctl ≠ .run) (i : Instr) : retire i t = t := by
  rw [retire]
  split <;> [contradiction; rfl]

/-- Settles O5: the step fetches what the bytes at `pc` decode to, executes it and retires it. -/
theorem stepRunsDecodedInstruction : Obligations.StepRunsDecodedInstruction := by
  unfold Obligations.StepRunsDecodedInstruction
  intro i s t hctl hentry _ u hdec hexec
  have hstep : step s = .next (retire i t) := by
    rw [step, hentry]
    exact (stepInstr_of_fetch (s := beginTransition s) hctl (fetchInstr_of_decode hdec)).trans (runInstr_of_exec hexec)
  exact ⟨fetchBytes_pc _ _, fun hrun => retire_of_run hrun i ▸ hstep,
    fun hstop => retire_of_not_run hstop i ▸ hstep⟩

/-- Settles O58: the two clauses are the two branches of `clock()`. -/
theorem clockRunsThenCounts : Obligations.ClockRunsThenCounts := by
  unfold Obligations.ClockRunsThenCounts
  refine fun s => ⟨fun hrun hzero t ht => ?runs, fun hcounting => ?counts⟩
  case runs =>
    have hstep : stepInstr s = .next t := ht
    rw [transition, clock, if_pos ⟨hrun, hzero⟩, hstep]
    rfl
  case counts =>
    rw [transition, clock, if_neg hcounting]
    rfl

end Sys2Proof.Machine

/-! ### Exceptions -/

namespace Sys2Proof.Machine

/-! #### Completion -/

/-- Whether an operation raised or not, `settle` answers a next state (R254). -/
theorem exists_settle_eq_next (x : Except State State) : ∃ t, settle x = .next t := by
  cases x with
  | error t | ok t => exact ⟨t, rfl⟩

/-- A family that may raise answers through `settle`; every other one answers its next state outright. -/
theorem Runs.completes {m : Mnemonic} {o : Operand} {f : State → Result} (h : Runs m o f) (s : State) :
    ∃ t, f s = .next t := by
  cases h with
  | pha | php | pla | plp | jsr b1 b2 | rts | brk | rti => exact exists_settle_eq_next _
  | _ => exact ⟨_, rfl⟩

/-- Settles O52: every instruction runs as one of the families. -/
theorem everyInstructionCompletes : Obligations.EveryInstructionCompletes := by
  unfold Obligations.EveryInstructionCompletes
  exact fun i => (exec_runs i).completes

/-! #### Reset -/

/-- Settles O11: `Rst` writes registers, counters, fault record and controller; RAM, ROM, trace and schedule are not
among the fields it writes. -/
theorem rstReinitialises : Obligations.RstReinitialises := by
  unfold Obligations.RstReinitialises
  exact fun s => ⟨_, congrArg Host.Outcome.next (rst_eq s), rfl, rfl, rfl, rfl, rfl, rfl, rfl, rfl, rfl, rfl,
    sameMemory_of rfl rfl, rfl, rfl⟩

/-! #### Undefined opcodes -/

section Undefined

variable {s t : State}

/-- An undefined opcode raises after its own fetch, before any operand byte is fetched (R231, R253). -/
theorem fetchInstr_of_undefined (h : memPeek s.pc s ∈ undefinedBytes) : fetchInstr s =
    .error (raise (.invalidOpcode (memPeek s.pc s) s.pc) ((memTouch s.pc s).setPc (s.pc + 1))) := by
  obtain ⟨-, hlist⟩ := undefinedBytesHaveNoInstruction
  have hlookup : lookup (fetch8 s).1 = none := (hlist _).2 h
  simp only [fetchInstr, hlookup]
  rfl

/-- A fetch that raised ends the step in the state it left (R254). -/
theorem stepInstr_of_fetch_error (hctl : s.ctl = .run) (hf : fetchInstr s = .error t) : stepInstr s = .next t := by
  simp only [stepInstr, hctl, hf]

end Undefined

/-- Settles O6: the call is recorded first, then the fetch of the opcode raises. -/
theorem undefinedOpcodeHalts : Obligations.UndefinedOpcodeHalts := by
  unfold Obligations.UndefinedOpcodeHalts
  intro s hctl hentry u hundef
  rw [step, hentry]
  exact stepInstr_of_fetch_error (s := u) hctl (fetchInstr_of_undefined (s := u) hundef)

/-! #### Taking an interrupt -/

section Interrupt

variable {s t : State}

theorem transition_nmi (hctl : s.ctl = .run) :
    transition .nmi s = settle (intEntry s.pc Config.nmiVector false s) := by
  simp only [transition, hctl, nmi]

theorem transition_irq_of_masked (hctl : s.ctl = .run) (hi : s.flag .i = true) : transition .irq s = .next s := by
  simp only [transition, hctl, irq, hi, if_true]

theorem transition_irq_of_clear (hctl : s.ctl = .run) (hi : s.flag .i = false) :
    transition .irq s = settle (intEntry s.pc Config.irqVector false s) := by
  simp only [transition, hctl, irq, hi, Bool.false_eq_true, if_false]

theorem transition_nmi_of_room (hctl : s.ctl = .run) (hroom : 3 ≤ s.sp.toNat) :
    transition .nmi s = .next (s.entered false (mkWord (s.rom.read 0xFFFB) (s.rom.read 0xFFFA))) := by
  rw [transition_nmi hctl, intEntry_of_room hroom _ _ (by decide) (by decide)]
  rfl

theorem transition_irq_of_room (hctl : s.ctl = .run) (hi : s.flag .i = false) (hroom : 3 ≤ s.sp.toNat) :
    transition .irq s = .next (s.entered false (mkWord (s.rom.read 0xFFFF) (s.rom.read 0xFFFE))) := by
  rw [transition_irq_of_clear hctl hi, intEntry_of_room hroom _ _ (by decide) (by decide)]
  rfl

theorem entered_sp (brk : Bool) (target : Word) (s : State) : (s.entered brk target).sp = s.sp - 3 :=
  pushedAll_sp (s.entryBytes brk) s

theorem entered_sp_toNat (hroom : 3 ≤ s.sp.toNat) (brk : Bool) (target : Word) :
    (s.entered brk target).sp.toNat = s.sp.toNat - 3 := pushedAll_sp_toNat (vs := s.entryBytes brk) hroom

/-- Everything the entry sequence does with room for its three bytes, whichever the handler (R261). -/
theorem entered_result (hram : s.ramWf = true) (hroom : 3 ≤ s.sp.toNat) (brk : Bool) (target : Word) :
    StackHolds (s.entryBytes brk) s (s.entered brk target) ∧ (s.entered brk target).sp = s.sp - 3 ∧
      (s.entered brk target).pc = target ∧ (s.entered brk target).flag .i = true ∧
      Kept [.sp, .pcl, .pch] [.i] s (s.entered brk target) ∧ (s.entered brk target).events = s.events ∧
      (s.entered brk target).penalty = s.penalty :=
  ⟨entered_stackHolds hram hroom brk target, entered_sp brk target s, rfl, entered_flag_i brk target s,
    entered_kept brk target s, pushedAll_events _ s, pushedAll_penalty _ s⟩

/-- An entry sequence without room for its three bytes ends in the fault of the first push that failed (R273). -/
theorem intEntry_faults (hram : s.ramWf = true) (hshort : s.sp.toNat ≤ 2) (opc vector : Word) (brk : Bool) :
    ∃ t, settle (intEntry opc vector brk s) = .next t ∧ EntryFaulted opc s.pc (s.entryBytes brk) s t :=
  ⟨_, congrArg settle (intEntry_of_short hshort opc vector brk),
    pushedAll_take_entryFaulted (bytes := s.entryBytes brk) hram (Nat.le_succ_of_le hshort) opc⟩

/-- Settles O12: in Run, `Nmi` is the entry sequence through its vector, and no flag is tested. -/
theorem nmiEntersHandler : Obligations.NmiEntersHandler := by
  unfold Obligations.NmiEntersHandler
  exact fun s hram hctl hroom => ⟨_, transition_nmi_of_room hctl hroom, entered_result hram hroom false _⟩

/-- Settles O13: I decides between nothing and the entry sequence through the vector of `Irq`. -/
theorem irqEntersHandlerUnlessMasked : Obligations.IrqEntersHandlerUnlessMasked := by
  unfold Obligations.IrqEntersHandlerUnlessMasked
  exact fun s hctl => ⟨transition_irq_of_masked hctl, fun hram hi hroom =>
    ⟨_, transition_irq_of_room hctl hi hroom, entered_result hram hroom false _⟩⟩

/-- Settles O15: `Nmi` and `Irq` run the entry sequence at `pc` itself, BRK as O14 says. -/
theorem interruptEntryFaultKeepsPushes : Obligations.InterruptEntryFaultKeepsPushes := by
  unfold Obligations.InterruptEntryFaultKeepsPushes
  intro s hram hshort
  obtain ⟨-, hbrk⟩ := brkEntersHandler
  obtain ⟨-, hfaults⟩ := hbrk s hram
  refine ⟨fun hctl => ?nmi, fun hctl hi => ?irq, hfaults hshort⟩
  case nmi => rw [transition_nmi hctl]; exact intEntry_faults hram hshort _ _ _
  case irq => rw [transition_irq_of_clear hctl hi]; exact intEntry_faults hram hshort _ _ _

end Interrupt

/-! #### Returning from an interrupt -/

section Resume

variable {s t : State}

/-- The pushed status is ST but for U, which is set, and B, which tells BRK from an interrupt (R31). -/
theorem pushedStatus_getLsbD (brk : Bool) (st : Byte) (f : Flag) :
    (pushedStatus brk st).getLsbD f.bit = if f = .u then true else if f = .b then brk else st.getLsbD f.bit := by
  cases brk <;> cases f <;> simp [pushedStatus, Flag.bit]

/-- The interrupted state once its handler has returned: ST is the pushed copy, and RAM keeps the bytes of the stack
frame (R271). -/
def State.resumed (brk : Bool) (s : State) : State :=
  { s with ram := (s.pushedAll (s.entryBytes brk)).ram, st := pushedStatus brk s.st }

theorem resumed_flag (brk : Bool) (f : Flag) (s : State) :
    (s.resumed brk).flag f = if f = .u then true else if f = .b then brk else s.flag f :=
  pushedStatus_getLsbD brk s.st f

theorem resumed_frame (brk : Bool) (s : State) : Frame [] [.u, .b] s (s.resumed brk) := by
  refine ⟨fun r hst _ => ?_, fun f hf => ?_⟩
  · cases r with
    | st => exact absurd rfl hst
    | _ => rfl
  · obtain ⟨hu, hb⟩ : f ≠ .u ∧ f ≠ .b := by simpa using hf
    rw [resumed_flag, if_neg hu, if_neg hb]

/-- Above SP after an entry sequence lie the pushed status and then the interrupted `pc` (R261). -/
theorem entered_read_above (hram : s.ramWf = true) (hroom : 3 ≤ s.sp.toNat) (brk : Bool) (target : Word) :
    let t := s.entered brk target
    t.ram.read (256 + t.sp.toNat + 1) = pushedStatus brk s.st ∧
      mkWord (t.ram.read (256 + t.sp.toNat + 3)) (t.ram.read (256 + t.sp.toNat + 2)) = s.pc := by
  obtain ⟨hst, habove⟩ := List.cons.inj (bytesAbove_pushedAll (vs := s.entryBytes brk) hram hroom)
  obtain ⟨hlo, habove⟩ := List.cons.inj habove
  obtain ⟨hhi, -⟩ := List.cons.inj habove
  exact ⟨hst, (congrArg₂ mkWord hhi hlo).trans (mkWord_hiByte_loByte s.pc)⟩

/-- RTI pops what the entry sequence pushed: the status, and then the two bytes of `pc` (R213, R261). -/
theorem exec_rti_entered (hram : s.ramWf = true) (hroom : 3 ≤ s.sp.toNat) (brk : Bool) (target : Word) :
    exec .rti (s.entered brk target) = .next (s.resumed brk) := by
  have hback : (s.entered brk target).sp + 3 = s.sp := by rw [entered_sp, BitVec.sub_add_cancel]
  have hpopped : (s.entered brk target).sp.toNat ≤ 0xFC := by
    rw [entered_sp_toNat hroom]
    exact Nat.sub_le_sub_right (Nat.le_of_lt_succ s.sp.isLt) 3
  obtain ⟨hst, hpc⟩ := entered_read_above hram hroom brk target
  rw [exec_rti_of_room hpopped, hback, hst, hpc]
  rfl

/-- The interrupted code goes on at its `pc` with every register and all flags but U and B as they were (R271). -/
theorem exists_exec_rti_entered (hram : s.ramWf = true) (hroom : 3 ≤ s.sp.toNat) (brk : Bool) (target : Word) :
    ∃ u, exec .rti (s.entered brk target) = .next u ∧ u.pc = s.pc ∧ u.flag .u = true ∧ u.flag .b = brk ∧
      FlagsKept [.u, .b] s u ∧ RegsKept [] s u ∧ u.ctl = s.ctl := by
  obtain ⟨hregs, hflags⟩ := resumed_frame brk s
  exact ⟨s.resumed brk, exec_rti_entered hram hroom brk target, rfl, resumed_flag brk .u s, resumed_flag brk .b s,
    hflags, hregs, rfl⟩

/-- BRK with room enters the handler from the address after its padding byte (R212). -/
theorem exec_brk_of_room (hroom : 3 ≤ s.sp.toNat) : exec .brk s =
    .next ((s.setPc (s.pc + 1)).entered true (mkWord (s.rom.read 0xFFFF) (s.rom.read 0xFFFE))) :=
  congrArg settle (intEntry_of_room (s := s.setPc (s.pc + 1)) hroom _ true (by decide) (by decide))

/-- `Nmi`, and `Irq` where I is clear, both enter a handler with B clear in the pushed status (R262, R263). -/
theorem eq_entered_of_interrupt (hctl : s.ctl = .run) (hroom : 3 ≤ s.sp.toNat)
    (ht : transition .nmi s = .next t ∨ (s.flag .i = false ∧ transition .irq s = .next t)) :
    ∃ target, t = s.entered false target := by
  rcases ht with ht | ⟨hi, ht⟩
  · exact ⟨_, Host.Outcome.next.inj (ht.symm.trans (transition_nmi_of_room hctl hroom))⟩
  · exact ⟨_, Host.Outcome.next.inj (ht.symm.trans (transition_irq_of_room hctl hi hroom))⟩

/-- Settles O17: RTI undoes the entry sequence up to U and B, and BRK is the entry sequence at the address after its
padding byte. -/
theorem interruptThenRtiResumes : Obligations.InterruptThenRtiResumes := by
  unfold Obligations.InterruptThenRtiResumes
  refine fun s t hram hctl hroom => ⟨fun ht => ?interrupt, fun ht => ?brk⟩
  case interrupt =>
    obtain ⟨target, rfl⟩ := eq_entered_of_interrupt hctl hroom ht
    exact hctl ▸ exists_exec_rti_entered hram hroom false target
  case brk =>
    obtain rfl := Host.Outcome.next.inj ((exec_brk_of_room hroom).symm.trans ht)
    obtain ⟨u, hrti, hpc, hu, hb, hflags, hregs, hrun⟩ :=
      exists_exec_rti_entered (s := s.setPc (s.pc + 1)) hram hroom true
        (mkWord (s.rom.read 0xFFFF) (s.rom.read 0xFFFE))
    obtain ⟨hregs', hflags'⟩ := (setPc_kept (s.pc + 1) s).frame.trans ⟨hregs, hflags⟩
    exact ⟨u, hrti, hpc, hu, hb, hflags', hregs', hrun.trans hctl⟩

end Resume

end Sys2Proof.Machine

/-! ### Reset and hazards -/

namespace Sys2Proof.Machine

/-! #### Power-up -/

/-- Settles O10: the pending reset is the one entry point enabled before Run, and it loads `pc` from the cartridge. -/
theorem powerUpTakesReset : Obligations.PowerUpTakesReset := by
  unfold Obligations.PowerUpTakesReset
  have hrst (rom : Memory) : transition .rst (State.constructed rom) = .next _ :=
    congrArg Host.Outcome.next (rst_eq (State.constructed rom))
  have hstop (rom : Memory) {e : Entry} (he : e ∈ [.step, .nmi, .irq]) :=
    transition_notEnabled he (s := State.constructed rom) (by simp [State.constructed])
  exact ⟨fun rom => ⟨rfl, hstop rom (by decide), hstop rom (by decide), hstop rom (by decide), hrst rom⟩,
    hrst []⟩

/-! #### The zero page -/

section ZeroPage

variable (b b1 : Byte) (s : State)

theorem zext16_lt : (zext16 b).toNat < 256 := (zext16_toNat b).trans_lt b.isLt

theorem loByte_zext16 : loByte (zext16 b) = b := by rw [← mkWord_zero, loByte_mkWord]

theorem nextInPage_zext16 : nextInPage (zext16 b) = zext16 (b + 1) := by
  rw [← mkWord_zero, nextInPage, hiByte_mkWord, loByte_mkWord, mkWord_zero]

/-- The zero page is the first page of RAM (R61). -/
theorem memRead_zext16 : memRead (zext16 b) s = (s.ram.read b.toNat, s) := by
  have hlt := zext16_lt b
  have hroute : route (zext16 b) = .ram b.toNat := by
    rw [route_of_lt_0x2000 (by omega), zext16_toNat, Nat.mod_eq_of_lt (by omega)]
  exact memRead_of_ram hroute

/-- A pointer in the zero page is two RAM bytes, the second one at the next location mod 256 (R104, R301). -/
theorem readPtr_zext16 : readPtr (zext16 b) s =
    (mkWord (s.ram.read ((b.toNat + 1) % 256)) (s.ram.read b.toNat), s) := by
  simp only [readPtr, nextInPage_zext16, memRead_zext16, BitVec.toNat_add]
  rfl

theorem ea_ixi_eq : ea (.ixi b1) s = readPtr (zext16 (b1 + s.x)) s := by
  simp only [ea, getAddr, loByte_zext16, mkWord_zero]

theorem ea_iix_eq : ea (.iix b1) s =
    (mkWord (s.ram.read ((b1.toNat + 1) % 256)) (s.ram.read b1.toNat) + zext16 s.y, s) := by
  simp only [ea, getAddr, readPtr_zext16]

end ZeroPage

/-- Settles O29: the addresses are zero-extended bytes, and so are the pointers' locations. -/
theorem zeroPageModesStayInZeroPage : Obligations.ZeroPageModesStayInZeroPage := by
  unfold Obligations.ZeroPageModesStayInZeroPage
  refine fun b1 s => ⟨zext16_lt b1, zext16_lt (s.x + b1), zext16_lt (s.y + b1), ?ixi, ea_iix_eq b1 s⟩
  case ixi => rw [ea_ixi_eq, readPtr_zext16, BitVec.toNat_add]

/-! #### Accesses to a peripheral register -/

/-- IND is the operand form of JMP alone (R82). -/
theorem op_of_form_ind {i : Instr} (h : i.form = .ind) : i.op = .jmp := by
  cases i with
  | jmpInd b1 b2 => rfl
  | _ => cases h

section Resolve

variable {m : Mem} {i : Instr}

/-- Only IND reads its pointer outside the zero page: every other form is resolved with no event (R61). -/
theorem ea_state_of_form_ne_ind (h : m.form ≠ .ind) (s : State) : (ea m s).2 = s := by
  cases m with
  | zer b1 | zex b1 | zey b1 | abs b1 b2 | abx b1 b2 | aby b1 b2 => rfl
  | ind b1 b2 => exact absurd rfl h
  | ixi b1 => rw [ea_ixi_eq, readPtr_zext16]
  | iix b1 => rw [ea_iix_eq]

/-- JMP apart, an instruction's operand is resolved with no event. -/
theorem ea_state_of_op_ne_jmp (hop : i.op ≠ .jmp) (hm : i.operand = .src (.mem m)) (s : State) : (ea m s).2 = s := by
  have hform : i.form = m.form := congrArg Operand.form hm
  exact ea_state_of_form_ne_ind (fun h => hop (op_of_form_ind (hform.trans h))) s

end Resolve

section Periph

variable {a reg : Word} {s t : State}

/-- A read of a register is an event with the byte the environment answers (R54). -/
theorem memTouch_events_of_periph (h : route a = .periph reg) (s : State) :
    (memTouch a s).events = s.events ++ [.pr reg (memPeek a s)] := by
  simp only [memTouch, memPeek, h]

theorem memWrite_events_of_periph (h : route a = .periph reg) (v : Byte) (s : State) :
    (memWrite a v s).events = s.events ++ [.pw reg v] := by
  rw [memWrite_of_periph h]

theorem memWrite_ram_of_periph (h : route a = .periph reg) (v : Byte) (s : State) : (memWrite a v s).ram = s.ram := by
  rw [memWrite_of_periph h]

/-- A read and then a write of one peripheral register, with no other access between them (R71, R299). -/
theorem memWrite_after_memTouch (h : route a = .periph reg) (hram : t.ram = s.ram) (hrom : t.rom = s.rom)
    (hev : t.events = (memTouch a s).events) (w : Byte) :
    (memWrite a w t).events = s.events ++ [.pr reg (memPeek a s), .pw reg w] ∧ SameMemory s (memWrite a w t) := by
  refine ⟨?_, sameMemory_of ((memWrite_ram_of_periph h w t).trans hram) ((memWrite_rom a w t).trans hrom)⟩
  rw [memWrite_events_of_periph h, hev, memTouch_events_of_periph h, List.append_assoc]
  rfl

/-- `Fetch8` of a peripheral register is one read of it (R34, R299). -/
theorem fetch8_of_periph (h : route s.pc = .periph reg) : fetch8 s = (Config.periphRead s.events reg,
    { s with pc := s.pc + 1, events := s.events ++ [.pr reg (Config.periphRead s.events reg)] }) := by
  simp only [fetch8, memRead_of_periph h]
  rfl

end Periph

section Families

variable {m : Mnemonic} {o : Operand} {f : State → Result} {s t : State}

theorem load_fetchesOnly (r : Reg) (src : Src) (s : State) : FetchesOnly src s (load r src s) := by simp [load]

/-- On memory and trace a read instruction does what its operand fetch does, and charges the same penalty (R113). -/
theorem Runs.fetchesOnly (h : Runs m o f) (hm : m ∈ readOps) (ht : f s = .next t) :
    ∃ src, o = .src src ∧ FetchesOnly src s t := by
  cases h with
  | lda src | ldx src | ldy src => cases ht; exact ⟨src, rfl, load_fetchesOnly _ src s⟩
  | adc src | sbc src => cases ht; exact ⟨src, rfl, addToA_fetchesOnly _ src s⟩
  | and src | eor src | ora src => cases ht; exact ⟨src, rfl, logic_fetchesOnly _ src s⟩
  | cmp src | cpx src | cpy src => cases ht; exact ⟨src, rfl, compareReg_fetchesOnly _ src s⟩
  | bit src => cases ht; exact ⟨src, rfl, bitTest_fetchesOnly src s⟩
  | _ => exact absurd hm (by decide)

end Families

section ReadModifyWrite

variable {m : Mem} {reg : Word} {s : State} (hea : (ea m s).2 = s) (h : route (ea m s).1 = .periph reg)
include hea h

theorem shiftMem_of_periph (f : Byte → Bool → Byte × Bool) : (shiftMem f m s).events =
      s.events ++ [.pr reg (memPeek (ea m s).1 s), .pw reg (shiftedAt f m s).1] ∧ SameMemory s (shiftMem f m s) := by
  rw [shiftMem_eq, hea]
  exact memWrite_after_memTouch (t := setNZ _ (State.setFlag .c _ _)) h (memTouch_ram _ s) (memTouch_rom _ s) rfl _

theorem stepMem_of_periph (f : Byte → Byte) : (stepMem f m s).events =
      s.events ++ [.pr reg (memPeek (ea m s).1 s), .pw reg (f (memPeek (ea m s).1 s))] ∧
    SameMemory s (stepMem f m s) := by
  rw [stepMem, hea]
  exact memWrite_after_memTouch (t := setNZ _ (memTouch _ s)) h (memTouch_ram _ s) (memTouch_rom _ s) rfl _

end ReadModifyWrite

/-- A read-modify-write mnemonic shifts or steps (R170, R175, R176). -/
theorem exists_shiftOp_or_step {m : Mnemonic} (h : m ∈ [.asl, .lsr, .rol, .ror, .inc, .dec]) :
    (∃ f, shiftOp m = some f) ∨ m = .inc ∨ m = .dec := by
  rw [← Option.isSome_iff_exists]
  revert h
  cases m <;> decide

section Access

variable {i : Instr} {m : Mem} {reg : Word} {s : State} (hm : i.operand = .src (.mem m))
  (h : route (ea m s).1 = .periph reg)
include hm h

/-- A read instruction is one read of the register, and a load also leaves the byte in its register (R299). -/
theorem exec_read_of_periph (hop : i.op ∈ readOps) : ∃ t, exec i s = .next t ∧
    t.events = s.events ++ [.pr reg (memPeek (ea m s).1 s)] ∧ SameMemory s t ∧
    ∀ r, (i.op, r) ∈ [(Mnemonic.lda, Reg.a), (.ldx, .x), (.ldy, .y)] →
      readReg r t = memPeek (ea m s).1 s ∧ NZof (memPeek (ea m s).1 s) t := by
  have hea := ea_state_of_op_ne_jmp (fun hjmp => absurd (hjmp ▸ hop) (by decide)) hm s
  obtain ⟨t, ht⟩ := (exec_runs i).completes s
  obtain ⟨src, hsrc, hmem, hev, -⟩ := (exec_runs i).fetchesOnly hop ht
  obtain rfl : Src.mem m = src := Operand.src.inj (hm.symm.trans hsrc)
  have hread : (loadOperand (.mem m) s).1 = memPeek (ea m s).1 s := congrArg (memPeek (ea m s).1) hea
  have htouch : (loadOperand (.mem m) s).2.events = (memTouch (ea m s).1 s).events :=
    congrArg (fun u => (memTouch (ea m s).1 u).events) hea
  refine ⟨t, ht, hev.trans (htouch.trans (memTouch_events_of_periph h s)), hmem, fun r hr => ?load⟩
  case load =>
    obtain rfl := Host.Outcome.next.inj (ht.symm.trans (exec_load hr hm s))
    exact hread ▸ ⟨readReg_setNZ_writeReg (ne_st_of_load hr) _ _, nzof_setNZ _ _⟩

/-- A store is one write of the register (R299). -/
theorem exec_store_of_periph {r : Reg} (hr : (i.op, r) ∈ [(Mnemonic.sta, Reg.a), (.stx, .x), (.sty, .y)]) :
    ∃ t, exec i s = .next t ∧ t.events = s.events ++ [.pw reg (readReg r s)] ∧ SameMemory s t := by
  have hea := ea_state_of_op_ne_jmp (fun hjmp => by simp [hjmp] at hr) hm s
  refine ⟨store r m s, exec_store hr hm s, ?_⟩
  rw [store, hea]
  exact ⟨memWrite_events_of_periph h _ s, sameMemory_of (memWrite_ram_of_periph h _ s) (memWrite_rom _ _ s)⟩

/-- A read-modify-write is one read of the register and then one write of the result (R299). -/
theorem exec_modify_of_periph (hop : i.op ∈ [.asl, .lsr, .rol, .ror, .inc, .dec]) : ∃ w t, exec i s = .next t ∧
    t.events = s.events ++ [.pr reg (memPeek (ea m s).1 s), .pw reg w] ∧ SameMemory s t ∧ NZof w t ∧
    (i.op = .inc → w = memPeek (ea m s).1 s + 1) ∧ (i.op = .dec → w = memPeek (ea m s).1 s - 1) ∧
    ∀ r co, shiftRule i.op (memPeek (ea m s).1 s).toNat (s.flag .c).toNat = some (r, co) →
      w.toNat = r ∧ t.flag .c = co := by
  have hea := ea_state_of_op_ne_jmp (fun hjmp => by simp [hjmp] at hop) hm s
  have hnz (g : Byte → Byte) : NZof (g (memPeek (ea m s).1 s)) (stepMem g m s) := by
    simpa only [hea] using stepMem_nzof g m s
  obtain ⟨f, hf⟩ | hinc | hdec := exists_shiftOp_or_step hop
  · obtain ⟨hev, hmem⟩ := shiftMem_of_periph hea h f
    have hres : shiftedAt f m s = f (memPeek (ea m s).1 s) (s.flag .c) := by rw [shiftedAt, hea]
    refine ⟨_, _, exec_shiftMem hf hm s, hev, hmem, shiftMem_nzof f m s, fun hinc => ?_, fun hdec => ?_,
      fun r co hrule => ?rule⟩
    case rule =>
      rw [shiftRule_eq_shiftOp, hf] at hrule
      cases hrule
      rw [shiftMem_flag_c, hres]
      exact ⟨rfl, rfl⟩
    · simp [hinc, shiftOp] at hf
    · simp [hdec, shiftOp] at hf
  · obtain ⟨hev, hmem⟩ := stepMem_of_periph hea h (fun v => v + 1)
    refine ⟨_, _, exec_inc hinc hm s, hev, hmem, hnz _, fun _ => rfl, ?_, ?_⟩ <;> simp [hinc, shiftRule]
  · obtain ⟨hev, hmem⟩ := stepMem_of_periph hea h (fun v => v - 1)
    refine ⟨_, _, exec_dec hdec hm s, hev, hmem, hnz _, ?_, fun _ => rfl, ?_⟩ <;> simp [hdec, shiftRule]

end Access

/-- Settles O56: every form these instructions have is resolved with no event, so the accesses at EA are all there
are. -/
theorem peripheralAccessesAreEvents : Obligations.PeripheralAccessesAreEvents := by
  unfold Obligations.PeripheralAccessesAreEvents
  refine ⟨fun i m reg s hm h => ?access, fun reg s h => ⟨_, fetch8_of_periph h⟩⟩
  case access =>
    exact ⟨exec_read_of_periph hm h, fun r => exec_store_of_periph hm h, exec_modify_of_periph hm h⟩

/-! #### Penalty cycles -/

/-- An index addition changes the high byte exactly where the low bytes carry (R115). -/
theorem hiByte_add_zext16_ne_iff (w : Word) (b : Byte) :
    hiByte (w + zext16 b) ≠ hiByte w ↔ 256 ≤ (loByte w).toNat + b.toNat := by
  have hw := w.isLt
  have hb := b.isLt
  rw [Ne, ← BitVec.toNat_inj, hiByte_toNat, hiByte_toNat, loByte_toNat, add_zext16_toNat]
  omega

theorem crossed_iff_leavesPage (m : Mem) (s : State) : crossed m s = true ↔ leavesPage m s := by
  have hpage (h l b : Byte) : (hiByte (mkWord h l + zext16 b) != h) = true ↔ 256 ≤ l.toNat + b.toNat := by
    simpa only [bne_iff_ne, hiByte_mkWord, loByte_mkWord] using hiByte_add_zext16_ne_iff (mkWord h l) b
  cases m with
  | abx b1 b2 => exact hpage b2 b1 s.x
  | aby b1 b2 => exact hpage b2 b1 s.y
  | iix b1 =>
    rw [crossed, ea_iix_eq, readPtr_zext16, hiByte_mkWord]
    exact hpage _ _ s.y
  | zer | zex | zey | abs | ind | ixi => exact iff_of_false Bool.false_ne_true id

section Penalty

variable {s t : State} {n : Nat}

theorem loadOperand_penalty (m : Mem) (s : State) :
    (loadOperand (.mem m) s).2.penalty = s.penalty + if crossed m s then 1 else 0 := by
  simp [loadOperand, memRead]

theorem push_penalty (h : s.penalty = n) (opc : Word) (k : Nat) (v : Byte) :
    Ends (·.penalty = n) (·.penalty = n) (push opc k v s) := by
  rcases push_cases opc k v s with ⟨_, e⟩ | ⟨_, e⟩ <;> rw [e] <;> exact h

theorem pop_penalty (h : s.penalty = n) (opc : Word) (k : Nat) :
    Ends (·.penalty = n) (·.2.penalty = n) (pop opc k s) := by
  rcases pop_cases opc k s with ⟨_, e⟩ | ⟨_, e⟩ <;> rw [e] <;> exact h

theorem pullA_penalty (s : State) : Ends (·.penalty = s.penalty) (·.penalty = s.penalty) (pullA s) :=
  (pop_penalty rfl _ _).bind fun _ hp => hp

theorem pullStatus_penalty (s : State) : Ends (·.penalty = s.penalty) (·.penalty = s.penalty) (pullStatus s) :=
  (pop_penalty rfl _ _).bind fun _ hp => hp

theorem callSub_penalty (b1 b2 : Byte) (s : State) :
    Ends (·.penalty = s.penalty) (·.penalty = s.penalty) (callSub b1 b2 s) :=
  (push_penalty rfl _ _ _).bind fun _ h1 => (push_penalty h1 _ _ _).bind fun _ h2 => h2

theorem returnSub_penalty (s : State) : Ends (·.penalty = s.penalty) (·.penalty = s.penalty) (returnSub s) :=
  (pop_penalty rfl _ _).bind fun _ hlo => (pop_penalty hlo _ _).bind fun _ hhi => hhi

theorem intEntry_penalty (h : s.penalty = n) (opc vector : Word) (brk : Bool) :
    Ends (·.penalty = n) (·.penalty = n) (intEntry opc vector brk s) :=
  (push_penalty h _ _ _).bind fun _ h1 =>
    (push_penalty h1 _ _ _).bind fun _ h2 =>
      (push_penalty h2 _ _ _).bind fun s3 h3 =>
        ((memTouch_penalty _ _).trans (memTouch_penalty _ (s3.setFlag .i true))).trans h3

theorem interruptReturn_penalty (s : State) :
    Ends (·.penalty = s.penalty) (·.penalty = s.penalty) (interruptReturn s) :=
  (pop_penalty rfl _ _).bind fun p hst =>
    (pop_penalty (s := writeReg .st p.1 p.2) hst _ _).bind fun _ hlo => (pop_penalty hlo _ _).bind fun _ hhi => hhi

theorem transfer_penalty (des src : Reg) (s : State) : (transfer des src s).penalty = s.penalty := by
  unfold transfer
  split <;> exact writeReg_penalty _ _ s

/-- Neither a read instruction nor a branch: no penalty, also where it raises a fault (R304). -/
theorem Runs.penalty_eq {m : Mnemonic} {o : Operand} {f : State → Result} (h : Runs m o f) (ht : f s = .next t)
    (hread : m ∉ readOps) (hbranch : ∀ f v, (m, f, v) ∉ branchOps) : t.penalty = s.penalty := by
  cases h with
  | lda | ldx | ldy | adc | sbc | and | eor | ora | cmp | cpx | cpy | bit => exact absurd (by decide) hread
  | bcc | bcs | beq | bne | bmi | bpl | bvc | bvs => simp [branchOps] at hbranch
  | pha | php => exact (push_penalty rfl _ _ _).settle_self ht
  | pla => exact (pullA_penalty s).settle_self ht
  | plp => exact (pullStatus_penalty s).settle_self ht
  | jsr b1 b2 => exact (callSub_penalty b1 b2 s).settle_self ht
  | rts => exact (returnSub_penalty s).settle_self ht
  | brk => exact (intEntry_penalty (s := s.setPc (s.pc + 1)) rfl _ _ _).settle_self ht
  | rti => exact (interruptReturn_penalty s).settle_self ht
  | sta m | stx m | sty m => cases ht; exact store_penalty _ m s
  | tax | tay | txa | tya | tsx | txs => cases ht; exact transfer_penalty _ _ s
  | asl m | lsr m | rol m | ror m => cases ht; exact shiftMem_penalty _ m s
  | inc m | dec m => cases ht; exact stepMem_penalty _ m s
  | inx | iny | dex | dey => cases ht; exact stepReg_penalty _ _ s
  | aslA | lsrA | rolA | rorA | sec | sei | sed | clc | cli | cld | clv | nop => cases ht; rfl
  | jmp m => cases ht; exact ea_penalty m s

/-- A branch has the operand form REL (R82). -/
theorem exists_rel_of_branch {i : Instr} {f : Flag} {v : Bool} (h : (i.op, f, v) ∈ branchOps) :
    ∃ off, i.operand = .rel off := by
  have hrun := exec_runs i
  generalize i.op = m at h hrun
  generalize i.operand = o at hrun ⊢
  generalize exec i = run at hrun
  cases hrun with
  | bcc b1 | bcs b1 | beq b1 | bne b1 | bmi b1 | bpl b1 | bvc b1 | bvs b1 => exact ⟨b1, rfl⟩
  | _ => simp [branchOps] at h

/-- A branch adds one penalty cycle exactly where it is taken (R304). -/
theorem exec_branch_penalty {i : Instr} {f : Flag} {v : Bool} (hb : (i.op, f, v) ∈ branchOps)
    (ht : exec i s = .next t) : t.penalty = s.penalty + if s.flag f = v then 1 else 0 := by
  obtain ⟨off, hoff⟩ := exists_rel_of_branch hb
  obtain rfl := Host.Outcome.next.inj ((exec_branch hb hoff s).symm.trans ht)
  split
  · rw [takeBranch_eq]
  · rfl

/-- A read from memory adds one penalty cycle exactly where its form crosses a page (R304). -/
theorem exec_read_penalty {i : Instr} {m : Mem} (hop : i.op ∈ readOps) (hm : i.operand = .src (.mem m))
    (ht : exec i s = .next t) : t.penalty = s.penalty + if crossed m s then 1 else 0 := by
  obtain ⟨src, hsrc, -, -, hpen⟩ := (exec_runs i).fetchesOnly hop ht
  obtain rfl : Src.mem m = src := Operand.src.inj (hm.symm.trans hsrc)
  rw [hpen, loadOperand_penalty]

end Penalty

/-- Settles O57: a read instruction charges what its operand fetch does, a branch what `takeBranch` does, and every
other family leaves the counter alone. -/
theorem penaltyCycles : Obligations.PenaltyCycles := by
  unfold Obligations.PenaltyCycles
  intro i s t ht
  refine ⟨?charged, fun hnone => ?free⟩
  case charged =>
    rintro (⟨m, hop, hm, hleaves⟩ | ⟨f, v, hb, hflag⟩)
    · rw [exec_read_penalty hop hm ht, if_pos ((crossed_iff_leavesPage m s).2 hleaves)]
    · rw [exec_branch_penalty hb ht, if_pos hflag]
  case free =>
    rw [not_or] at hnone
    obtain ⟨hread, hbranch⟩ := hnone
    by_cases hop : i.op ∈ readOps
    · obtain ⟨src, hsrc, -, -, hpen⟩ := (exec_runs i).fetchesOnly hop ht
      cases src with
      | imm b1 => exact hpen
      | mem m =>
        have hstays : ¬ crossed m s = true := fun hc => hread ⟨m, hop, hsrc, (crossed_iff_leavesPage m s).1 hc⟩
        rw [exec_read_penalty hop hsrc ht, if_neg hstays, Nat.add_zero]
    · by_cases hb : ∃ f v, (i.op, f, v) ∈ branchOps
      · obtain ⟨f, v, hb⟩ := hb
        rw [exec_branch_penalty hb ht, if_neg fun hflag => hbranch ⟨f, v, hb, hflag⟩, Nat.add_zero]
      · exact (exec_runs i).penalty_eq ht hop fun f v hfv => hb ⟨f, v, hfv⟩

end Sys2Proof.Machine
